-- ==== Sys2Proof/Word.lean ====
section
/-! DEFINITION. The word types of the FELC (spec/00_scope.md R5, spec/30_encoding.md R80), the ten
letters of the wire protocol, the two protocol variants, and the steps that the agents of R3 and R4
can take, as data: a list of them is what the machine is given to run. -/

namespace Sys2Proof

/-- A channel value or a byte of the link (R5: CH_BITS = 8). -/
abbrev Byte := BitVec 8

/-- A data word of the producer bus (R5: BUS_DATA_BITS = 32). -/
abbrev Data := BitVec 32

/-- A byte address of the producer bus (R5: BUS_ADDR_BITS = 12). -/
abbrev Addr := BitVec 12

/-- A whole producer bus transaction {W, addr[11:0], wdata[31:0]} (R80, format BUS). -/
abbrev BusWord := BitVec 45

/-- A logical pixel: the R, G and B channels of R22, without the valid bit. -/
structure Rgb where
  r : Byte
  g : Byte
  b : Byte
deriving DecidableEq, Repr, Inhabited

/-- The character tokens of the link (R90); their byte values are `char` of Decode.lean. -/
inductive Letter where
  | S | A | E | D | G | B | T | Z | K | Q
deriving DecidableEq, Repr

/-- The two protocol variants (R2): VARIANT = 0 is serial, VARIANT = 1 is socket. -/
inductive Variant where
  | serial
  | socket
deriving DecidableEq, Repr, Inhabited

/-- One atomic step of an agent (R3, R4), or the reset input (R270). Which of them comes next is
decided outside the block: R4 lets any agent with an enabled step go next. -/
inductive AgentStep where
  /-- The Producer issues this bus transaction. -/
  | producer (t : BusWord)
  /-- The Engine takes its step, if it has one (R184). -/
  | engine
  /-- The Device delivers this byte (R210). -/
  | device (b : Byte)
  /-- The Timer takes its timeout step, if it has one (R214). -/
  | timer
  /-- The reset input `rst` is asserted and released (R270, R271). -/
  | rst
deriving DecidableEq, Repr, Inhabited

/-- One entry of the machine's agenda. `agent a` is a step of R4. `token v bytes` is an Engine step
named by what it sends: the Engine's emission of the next byte of the host-to-device token of
variant `v` whose bytes are `bytes` (R91). -/
inductive Event where
  | agent (a : AgentStep)
  | token (v : Variant) (bytes : List Byte)
deriving DecidableEq, Repr, Inhabited

end Sys2Proof
end

