-- ==== Sys2Proof/Syntax.lean ====
section
/-! DEFINITION. The instructions: one constructor for each row of spec/opcode_table.json, in its
order. The first fourteen are the producer operations of spec/30_encoding.md R83, the next nine the
host-to-device tokens of R91, the last four the device-to-host tokens of R92. A field that R85 calls
ignored is no operand. -/

namespace Sys2Proof

inductive Instr where
  /-- BUS_ERR (R155): the transaction as it stands, {W, addr, wdata}. -/
  | busErr (w : Bool) (addr : Addr) (wdata : Data)
  /-- WRPX (R145): pixel index and channels. -/
  | wrpx (p : Byte) (r g b : Byte)
  /-- RDPX (R146). -/
  | rdpx (p : Byte)
  /-- SET_READY (R147). -/
  | setReady
  /-- CLEAR_READY (R148). -/
  | clearReady
  /-- CONNECT (R180). -/
  | connect
  /-- DISCONNECT (R182). -/
  | disconnect
  /-- EFFECT (R183): command code, HASVAL, value byte (R84). -/
  | effect (code : Byte) (hasval : Bool) (val : Byte)
  /-- CMD_ILLEGAL (R153): the undefined OP. -/
  | cmdIllegal (op : Byte)
  /-- RDCMD (R154). -/
  | rdcmd
  /-- RDSTATUS (R149). -/
  | rdstatus
  /-- WRCONFIG (R150): the variant that wdata[0] selects. -/
  | wrconfig (v : Variant)
  /-- RDCONFIG (R151). -/
  | rdconfig
  /-- RDFAULT (R152). -/
  | rdfault
  /-- TOK_GO_SERIAL (R91): `G`. -/
  | tokGoSerial
  /-- TOK_BRIGHT (R91): `B`, then optionally a value byte. -/
  | tokBright (val : Option Byte)
  /-- TOK_TEST (R91): `T`, then optionally a value byte. -/
  | tokTest (val : Option Byte)
  /-- TOK_BLANK (R91): `Z`. -/
  | tokBlank
  /-- TOK_FRAME_SERIAL (R91, R112): the 768 payload bytes. -/
  | tokFrameSerial (payload : List Byte)
  /-- TOK_KEEPALIVE (R91): 0x00, `K`. -/
  | tokKeepalive
  /-- TOK_GO_SOCKET (R91): 0x00, `G`. -/
  | tokGoSocket
  /-- TOK_QUIT (R91): 0x00, `Q`. -/
  | tokQuit
  /-- TOK_FRAME_SOCKET (R91, R114): the 768 payload bytes, none of them 0x00. -/
  | tokFrameSocket (payload : List Byte)
  /-- TOK_S (R92): "device ready after reset". -/
  | tokS
  /-- TOK_A (R92): "generic ack". -/
  | tokA
  /-- TOK_E (R92): "device error". -/
  | tokE
  /-- TOK_D (R92): "long effect done" / socket "done". -/
  | tokD
deriving DecidableEq, Repr

end Sys2Proof
end

