-- ==== Sys2Proof/WellFormed.lean ====
section
/-! DEFINITION. Which terms of Instr are instructions: the operand limits that the encodings of
spec/30_encoding.md set and the types of the operands do not. -/

namespace Sys2Proof

/-- What selects BUS_ERR (R83, last row). -/
def selectsBusErr (w : Bool) (addr : Addr) : Bool :=
  addr.extractLsb' 0 2 != 0 || decide (0x410 ≤ addr.toNat) || (w && (addr == 0x404 || addr == 0x40C))

/-- The length of a frame payload (R5: FRAME_BYTES). -/
def isFrame (payload : List Byte) : Bool := payload.length == 768

/-- An instruction is well formed when an encoding of it exists (R83, R91). -/
def Instr.wf : Instr → Bool
  | .busErr w addr _ => selectsBusErr w addr
  | .wrpx _ _ _ _ => true
  | .rdpx _ => true
  | .setReady => true
  | .clearReady => true
  | .connect => true
  | .disconnect => true
  | .effect _ _ _ => true
  | .cmdIllegal op => op != 0x01 && op != 0x02 && op != 0x03 && op != 0x04 && op != 0x05
  | .rdcmd => true
  | .rdstatus => true
  | .wrconfig _ => true
  | .rdconfig => true
  | .rdfault => true
  | .tokGoSerial => true
  | .tokBright _ => true
  | .tokTest _ => true
  | .tokBlank => true
  | .tokFrameSerial payload => isFrame payload
  | .tokKeepalive => true
  | .tokGoSocket => true
  | .tokQuit => true
  | .tokFrameSocket payload => isFrame payload && payload.all (· != 0)
  | .tokS => true
  | .tokA => true
  | .tokE => true
  | .tokD => true

end Sys2Proof
end

