-- ==== Sys2Proof/Decode.lean ====
section
/-! DEFINITION. Encodings (spec/30_encoding.md, spec/opcode_table.json): the byte values of the
character tokens, the decoder, the encoder written from the same tables, and the two functions that
read an instruction from a number whose bits are numbered as spec/opcode_table.json numbers them. -/

namespace Sys2Proof

/-- The byte values of the character tokens (R90), the one table every token byte of the model comes
from. PRESUMED (the spec marks them as general knowledge), unsafe: assumption log entry 3. -/
def char : Letter → Byte
  | .S => 0x53
  | .A => 0x41
  | .E => 0x45
  | .D => 0x44
  | .G => 0x47
  | .B => 0x42
  | .T => 0x54
  | .Z => 0x5A
  | .K => 0x4B
  | .Q => 0x51

/-- Why an agenda entry is no instruction. -/
inductive DecodeError where
  /-- The bytes spell no host-to-device token of that variant (R91). -/
  | notAToken
  /-- The byte is no device-to-host token (R92); the Device may deliver it all the same (R210). -/
  | notADeviceToken
  /-- An Engine, Timer or reset step: it has no encoding. -/
  | notAnInstruction
deriving DecidableEq, Repr

/-! ### Producer bus transactions -/

/-- W of a transaction: bit 44, 1 is MemWrite (R80). -/
def busW (t : BusWord) : Bool := t.getLsbD 44

/-- addr of a transaction: bits 43:32 (R80). -/
def busAddr (t : BusWord) : Addr := t.extractLsb' 32 12

/-- wdata of a transaction: bits 31:0 (R80). -/
def busData (t : BusWord) : Data := t.extractLsb' 0 32

/-- {W, addr, wdata} as one word (R80). -/
def busWord (w : Bool) (addr : Addr) (wdata : Data) : BusWord := BitVec.ofBool w ++ addr ++ wdata

/-- CONFIG bit 0 as a variant (R27). -/
def variantOfBit (b : Bool) : Variant := if b then .socket else .serial

/-- A variant as CONFIG bit 0 (R27). -/
def bitOfVariant : Variant → Bool
  | .serial => false
  | .socket => true

/-- A write to CMD: the operation of OP = wdata[31:24] (R82, R83, R87). -/
def decodeCmd (wdata : Data) : Instr :=
  let op : Byte := wdata.extractLsb' 24 8
  if op = 0x01 then .setReady
  else if op = 0x02 then .clearReady
  else if op = 0x03 then .connect
  else if op = 0x04 then .disconnect
  else if op = 0x05 then .effect (wdata.extractLsb' 16 8) (wdata.getLsbD 8) (wdata.extractLsb' 0 8)
  else .cmdIllegal op

/-- Decoding a producer transaction is total (R87, with the operands of R84). -/
def decodeTransaction (w : Bool) (addr : Addr) (wdata : Data) : Instr :=
  if addr.extractLsb' 0 2 ≠ 0 then .busErr w addr wdata
  else if addr.extractLsb' 10 2 = 0 then
    if w then
      .wrpx (addr.extractLsb' 2 8) (wdata.extractLsb' 16 8) (wdata.extractLsb' 8 8) (wdata.extractLsb' 0 8)
    else .rdpx (addr.extractLsb' 2 8)
  else if addr = 0x400 then (if w then decodeCmd wdata else .rdcmd)
  else if addr = 0x404 then (if w then .busErr w addr wdata else .rdstatus)
  else if addr = 0x408 then (if w then .wrconfig (variantOfBit (wdata.getLsbD 0)) else .rdconfig)
  else if addr = 0x40C then (if w then .busErr w addr wdata else .rdfault)
  else .busErr w addr wdata

/-- The operation that a transaction word selects (R87). -/
def decodeBus (t : BusWord) : Instr := decodeTransaction (busW t) (busAddr t) (busData t)

/-! ### Wire tokens -/

/-- The device-to-host token of a received byte (R92): one unprefixed byte in both variants. -/
def decodeDevice (b : Byte) : Option Instr :=
  if b = char .S then some .tokS
  else if b = char .A then some .tokA
  else if b = char .E then some .tokE
  else if b = char .D then some .tokD
  else none

/-- The host-to-device token that a sequence of bytes spells in the serial variant (R91). -/
def decodeSerialToken : List Byte → Option Instr
  | [c] =>
    if c = char .G then some .tokGoSerial
    else if c = char .B then some (.tokBright none)
    else if c = char .T then some (.tokTest none)
    else if c = char .Z then some .tokBlank
    else none
  | [c, v] =>
    if c = char .B then some (.tokBright (some v))
    else if c = char .T then some (.tokTest (some v))
    else none
  | payload => if isFrame payload then some (.tokFrameSerial payload) else none

/-- The host-to-device token that a sequence of bytes spells in the socket variant (R91, R93). -/
def decodeSocketToken : List Byte → Option Instr
  | [z, c] =>
    if z ≠ 0 then none
    else if c = char .K then some .tokKeepalive
    else if c = char .G then some .tokGoSocket
    else if c = char .Q then some .tokQuit
    else none
  | payload => if isFrame payload && payload.all (· != 0) then some (.tokFrameSocket payload) else none

/-- The host-to-device token of R91 that a sequence of bytes spells in a variant. -/
def decodeToken (v : Variant) (bytes : List Byte) : Option Instr :=
  match v with
  | .serial => decodeSerialToken bytes
  | .socket => decodeSocketToken bytes

/-- The decoder: total on every agenda entry, rejecting by name. -/
def decode : Event → Except DecodeError Instr
  | .agent (.producer t) => .ok (decodeBus t)
  | .agent (.device b) => match decodeDevice b with
    | some i => .ok i
    | none => .error .notADeviceToken
  | .agent .engine => .error .notAnInstruction
  | .agent .timer => .error .notAnInstruction
  | .agent .rst => .error .notAnInstruction
  | .token v bytes => match decodeToken v bytes with
    | some i => .ok i
    | none => .error .notAToken

/-! ### The encoder -/

/-- The address of FB[p]: 4·p (R64). -/
def pixelAddr (p : Byte) : Addr := (0 : BitVec 2) ++ p ++ (0 : BitVec 2)

/-- PIXW on a write, ignored bits 0 (R81, R94). -/
def pixelData (r g b : Byte) : Data := (0 : BitVec 8) ++ r ++ g ++ b

/-- CMDW: {OP, ARG0, ARG1, ARG2} (R82). -/
def cmdData (op arg0 arg1 arg2 : Byte) : Data := op ++ arg0 ++ arg1 ++ arg2

/-- A producer transaction as an agenda entry. -/
def busEvent (w : Bool) (addr : Addr) (wdata : Data) : Event := .agent (.producer (busWord w addr wdata))

/-- The encoding of an instruction, with every ignored field 0 (R94, R91, R92). -/
def encode : Instr → Event
  | .busErr w addr wdata => busEvent w addr wdata
  | .wrpx p r g b => busEvent true (pixelAddr p) (pixelData r g b)
  | .rdpx p => busEvent false (pixelAddr p) 0
  | .setReady => busEvent true 0x400 (cmdData 0x01 0 0 0)
  | .clearReady => busEvent true 0x400 (cmdData 0x02 0 0 0)
  | .connect => busEvent true 0x400 (cmdData 0x03 0 0 0)
  | .disconnect => busEvent true 0x400 (cmdData 0x04 0 0 0)
  | .effect code hasval val => busEvent true 0x400 (cmdData 0x05 code ((0 : BitVec 7) ++ BitVec.ofBool hasval) val)
  | .cmdIllegal op => busEvent true 0x400 (cmdData op 0 0 0)
  | .rdcmd => busEvent false 0x400 0
  | .rdstatus => busEvent false 0x404 0
  | .wrconfig v => busEvent true 0x408 ((0 : BitVec 31) ++ BitVec.ofBool (bitOfVariant v))
  | .rdconfig => busEvent false 0x408 0
  | .rdfault => busEvent false 0x40C 0
  | .tokGoSerial => .token .serial [char .G]
  | .tokBright val => .token .serial (char .B :: val.toList)
  | .tokTest val => .token .serial (char .T :: val.toList)
  | .tokBlank => .token .serial [char .Z]
  | .tokFrameSerial payload => .token .serial payload
  | .tokKeepalive => .token .socket [0, char .K]
  | .tokGoSocket => .token .socket [0, char .G]
  | .tokQuit => .token .socket [0, char .Q]
  | .tokFrameSocket payload => .token .socket payload
  | .tokS => .agent (.device (char .S))
  | .tokA => .agent (.device (char .A))
  | .tokE => .agent (.device (char .E))
  | .tokD => .agent (.device (char .D))

/-! ### Instructions given as numbers -/

/-- One byte of the link: a device-to-host token if it is one (R92), else a serial token (R91). The
two sets of one-byte tokens share no byte. -/
def byteEvent (b : Byte) : Event :=
  match decodeDevice b with
  | some _ => .agent (.device b)
  | none => .token .serial [b]

/-- Two bytes of the link in sending order: socket tokens begin with 0x00, serial ones do not (R93). -/
def pairEvent (first second : Byte) : Event := .token (if first = 0 then .socket else .serial) [first, second]

/-- The agenda entry of a two-byte token given as a number: the byte sent first is the low byte. Where
that spells no token, the number is read as the table writes the row, with the byte sent first in the
high byte. DESIGN CHOICE, safe: assumption log entry 4. -/
def pairOfNat (w : Nat) : Event :=
  let lo := BitVec.ofNat 8 w
  let hi := BitVec.ofNat 8 (w / 256)
  match decode (pairEvent lo hi) with
  | .ok _ => pairEvent lo hi
  | .error _ => pairEvent hi lo

/-- The 768 bytes of a frame payload given as a number, the byte sent first in the lowest place. -/
def frameBytes (w : Nat) : List Byte := (List.range 768).map fun i => BitVec.ofNat 8 (w / 256 ^ i)

/-- A frame payload: a payload without a 0x00 byte is read as the socket one (R93). DESIGN CHOICE, safe:
assumption log entry 14. -/
def frameEvent (payload : List Byte) : Event :=
  .token (if payload.all (· != 0) then .socket else .serial) payload

/-- The agenda entry of an instruction whose bits are `w`: up to 8 bits one byte of the link, up to
16 bits two bytes, up to 64 bits a transaction word of 45 bits, longer a frame payload. -/
def eventOfTableWord (nbits w : Nat) : Event :=
  if nbits ≤ 8 then byteEvent (BitVec.ofNat 8 w)
  else if nbits ≤ 16 then pairOfNat w
  else if nbits ≤ 64 then .agent (.producer (BitVec.ofNat 45 w))
  else frameEvent (frameBytes w)

/-- The instruction the decoder reads from those bits. -/
def decodeTableWord (nbits w : Nat) : Option Instr :=
  match decode (eventOfTableWord nbits w) with
  | .ok i => some i
  | .error _ => none

end Sys2Proof
end

