-- ==== Sys2Proof/Config.lean ====
section
/-! DEFINITION. What an implementation fixes (the OPEN parameters of spec/00_scope.md R5, with the
defaults the spec names) and the free values: constants with no body, for what the spec leaves
unspecified. The parameters themselves are fields of State that no step writes, so a statement about
every state covers every choice of them; the values here are the ones State.reset holds. -/

namespace Sys2Proof

/-- The two values of the named parameter BUSY_SET_POLICY (R5, R144; conflict C1). -/
inductive BusySetPolicy where
  | latch
  | drop
deriving DecidableEq, Repr

/-- BUSY_SET_POLICY's default (R5: "the spec's default is LATCH"). -/
def Config.busySetPolicyDefault : BusySetPolicy := .latch

/-- RX_FIFO_DEPTH's default (R5: "integer ≥ 1; default 16"). -/
def Config.rxFifoDepthDefault : Nat := 16

/-- The free value of RDPX bits 23:0 while V = 0 (R23, R146: "a draw"), one for each draw.
DESIGN CHOICE, safe: assumption log entry 1. -/
opaque Config.freeRgb : Nat → BitVec 24

/-- Which agent steps next where the agenda names no step (R4: "Any agent with an enabled step may
take the next step"), one for each draw. DESIGN CHOICE, safe: assumption log entry 2. -/
opaque Config.freeStep : Nat → AgentStep

end Sys2Proof
end

