-- ==== Sys2Proof/Machine/State.lean ====
section
/-! DEFINITION. The machine's state as plain data (spec/10_state.md), the reasons a step can stop, and
the state after reset (spec/70_reset_and_hazards.md R270). Registers whose value is one of a fixed
set of named codes (PHASE, CAUSE, CMDERR, VARIANT) are inductive types; Flags.lean gives the codes. -/

namespace Sys2Proof.Machine

/-- PHASE, the Engine's state (R30). The reserved codes 0x18..0x1F are "never entered", so a state
that holds one is ill-formed and has no value of this type. -/
inductive Phase where
  | disc
  | hsK0
  | hsK1
  | hsWaitS
  | hsG0
  | hsG1
  | hsWaitA
  | idle
  | txG0
  | txG1
  | txWaitA
  | txFrame
  | txWaitD
  | efCmd
  | efWaitA1
  | efVal
  | efWaitA2
  | efWaitD
  | dcQ0
  | dcQ1
  | fltZ
  | fltQ0
  | fltQ1
  | halt
deriving DecidableEq, Repr

/-- The fatal cause codes (R240); 6..15 are never raised. -/
inductive Cause where
  | none
  | badByte
  | deviceError
  | timeout
  | unsetPixel
  | rxOverflow
deriving DecidableEq, Repr

/-- The values of CMDERR (R35, R142); 6 and 7 are never written. -/
inductive CmdErr where
  | ok
  | rejBusy
  | rejFatal
  | rejIllegal
  | rejUnsupported
  | rejState
deriving DecidableEq, Repr

/-- What a producer bus transaction returns (R61): the response, ERR or OKAY, and rdata. -/
structure BusResponse where
  err : Bool
  rdata : Data
deriving DecidableEq, Repr

/-- The Frame Buffer window of the producer bus space, 0x000..0x3FF (R64), as bytes under the lane
numbering of R66: lane k of pixel p at address 4·p + k, lanes 0, 1, 2 its B, G, R and lane 3 its V.
An address that is not listed reads as 0x00: for lane 3 that is V = 0, the reset value of R23; for
the other lanes it is a choice no step ever reads (assumption log entry 1). -/
abbrev Memory := List Host.Cell

/-- Why the machine stops with a fault. -/
inductive Fault where
  /-- Raised by `runEvent` alone, on an agenda entry `token v bytes` whose bytes spell no
  host-to-device token of R91. Such an entry names no step of any agent, and the spec has no such
  step. Safe: the machine stops where the hardware has nothing to do. -/
  | notAToken
deriving DecidableEq, Repr

/-- Why the machine refuses an instruction. -/
inductive Refusal where
  /-- Raised by a refused arm of `exec`, for an instruction that has no meaning yet. Safe: nothing is
  claimed of it. -/
  | notModelled (mnemonic : String)
deriving DecidableEq, Repr

/-- The whole state. The first group is the architectural state of spec/10_state.md, the second what
the block has put out, the third the OPEN parameters of R5, the fourth the model's own fields. -/
structure State where
  /-- FB, the Frame Buffer (R22). -/
  fb : Memory
  /-- READY, the Transmit-Ready Flag (R25). -/
  ready : Bool
  /-- SNAP, the encoded snapshot (R29). -/
  snap : Vector Byte 768
  /-- CONFIG.VARIANT (R27); bits 31:1 of CONFIG read as 0 and ignore writes. -/
  variant : Variant
  /-- PHASE (R30). -/
  phase : Phase
  /-- CONN (R33). -/
  conn : Bool
  /-- FATAL (R34); the output `fatal_o` equals it (R251). -/
  fatal : Bool
  /-- FAULTINFO.CAUSE (R43). -/
  cause : Cause
  /-- FAULTINFO.FAULT_BYTE (R43). -/
  faultByte : Byte
  /-- FAULTINFO.FAULT_PHASE (R43); 0x00 is the code of DISC. -/
  faultPhase : Phase
  /-- CMDERR (R35). -/
  cmdErr : CmdErr
  /-- TXCNT, the index of the next SNAP byte, in 0..767 (R36). -/
  txcnt : Fin 768
  /-- The RX FIFO, oldest byte first (R37). -/
  rxFifo : List Byte
  /-- EF_CODE (R38). -/
  efCode : Byte
  /-- EF_HASVAL (R38). -/
  efHasVal : Bool
  /-- EF_VAL (R38). -/
  efVal : Byte
  /-- The TX stream, every byte emitted so far, oldest first (R60). -/
  tx : List Byte
  /-- The answer to the last producer transaction, if there has been one (R61). -/
  busResp : Option BusResponse
  /-- The parameter RX_FIFO_DEPTH (R5); no step writes it. -/
  rxFifoDepth : Nat
  /-- The parameter BUSY_SET_POLICY (R5, R144); no step writes it. -/
  busySetPolicy : BusySetPolicy
  /-- The model's own field: the steps the agents take next, in order (R4). -/
  agenda : List Event
  /-- The model's own field: how many free values have been drawn. -/
  draws : Nat
deriving DecidableEq, Repr

/-- The state after reset (R270). The parameters hold the spec's defaults; SNAP, which R270 leaves
unspecified, holds zeros (assumption log entry 5). -/
def State.reset : State where
  fb := []
  ready := false
  snap := Vector.replicate 768 0
  variant := .serial
  phase := .disc
  conn := false
  fatal := false
  cause := .none
  faultByte := 0
  faultPhase := .disc
  cmdErr := .ok
  txcnt := 0
  rxFifo := []
  efCode := 0
  efHasVal := false
  efVal := 0
  tx := []
  busResp := none
  rxFifoDepth := Config.rxFifoDepthDefault
  busySetPolicy := Config.busySetPolicyDefault
  agenda := []
  draws := 0

end Sys2Proof.Machine
end

