-- ==== Sys2Proof/Machine/Flags.lean ====
section
/-! DEFINITION. The codes of the registers, the phase classes, and every view the spec derives from
the state: LSTATE, ACKCODE, BUSY and the words of STATUS, CONFIG and FAULTINFO (spec/10_state.md). -/

namespace Sys2Proof.Machine

/-- The 5-bit code of PHASE (R30). -/
def Phase.code : Phase → BitVec 5
  | .disc => 0x00
  | .hsK0 => 0x01
  | .hsK1 => 0x02
  | .hsWaitS => 0x03
  | .hsG0 => 0x04
  | .hsG1 => 0x05
  | .hsWaitA => 0x06
  | .idle => 0x07
  | .txG0 => 0x08
  | .txG1 => 0x09
  | .txWaitA => 0x0A
  | .txFrame => 0x0B
  | .txWaitD => 0x0C
  | .efCmd => 0x0D
  | .efWaitA1 => 0x0E
  | .efVal => 0x0F
  | .efWaitA2 => 0x10
  | .efWaitD => 0x11
  | .dcQ0 => 0x12
  | .dcQ1 => 0x13
  | .fltZ => 0x14
  | .fltQ0 => 0x15
  | .fltQ1 => 0x16
  | .halt => 0x17

/-- The 4-bit code of CAUSE (R240). -/
def Cause.code : Cause → BitVec 4
  | .none => 0
  | .badByte => 1
  | .deviceError => 2
  | .timeout => 3
  | .unsetPixel => 4
  | .rxOverflow => 5

/-- The 3-bit code of CMDERR (R35). -/
def CmdErr.code : CmdErr → BitVec 3
  | .ok => 0
  | .rejBusy => 1
  | .rejFatal => 2
  | .rejIllegal => 3
  | .rejUnsupported => 4
  | .rejState => 5

/-- The set REST = {DISC, IDLE, HALT} (R30). -/
def Phase.isRest : Phase → Bool
  | .disc => true
  | .idle => true
  | .halt => true
  | _ => false

/-- The set WAIT of the wait-class phases (R30). -/
def Phase.isWait : Phase → Bool
  | .hsWaitS => true
  | .hsWaitA => true
  | .txWaitA => true
  | .txWaitD => true
  | .efWaitA1 => true
  | .efWaitA2 => true
  | .efWaitD => true
  | _ => false

/-- The set SEND of the send-class phases: the phases of neither other class (R30). -/
def Phase.isSend (p : Phase) : Bool := !p.isRest && !p.isWait

/-- LSTATE (R31). -/
def Phase.lstate (p : Phase) : BitVec 2 :=
  if p.isWait then 2
  else match p with
    | .idle => 1
    | .txG0 => 3
    | .txG1 => 3
    | .txFrame => 3
    | .efCmd => 3
    | .efVal => 3
    | _ => 0

/-- ACKCODE, the byte the Engine requires next (R32). -/
def Phase.ackCode : Phase → Byte
  | .hsWaitS => char .S
  | .hsWaitA => char .A
  | .txWaitA => char .A
  | .efWaitA1 => char .A
  | .efWaitA2 => char .A
  | .txWaitD => char .D
  | .efWaitD => char .D
  | _ => 0

/-- BUSY (R39). -/
def Phase.busy (p : Phase) : Bool := !p.isRest

/-- RXOPEN: the phases in which a delivered byte is kept (R210). -/
def Phase.rxOpen : Phase → Bool
  | .disc => false
  | .dcQ0 => false
  | .dcQ1 => false
  | .fltZ => false
  | .fltQ0 => false
  | .fltQ1 => false
  | .halt => false
  | _ => true

/-- TXP, the in-flight phases of a frame transmit cycle (R144). -/
def Phase.inTxp : Phase → Bool
  | .txG0 => true
  | .txG1 => true
  | .txWaitA => true
  | .txFrame => true
  | .txWaitD => true
  | _ => false

/-- The STATUS register (R28). -/
def State.statusWord (s : State) : Data :=
  (0 : BitVec 5) ++ s.cmdErr.code ++ s.phase.ackCode ++ (0 : BitVec 5) ++ s.phase.code ++ s.phase.lstate ++
    BitVec.ofBool s.phase.busy ++ BitVec.ofBool s.fatal ++ BitVec.ofBool s.conn ++ BitVec.ofBool s.ready

/-- The CONFIG register (R27). -/
def State.configWord (s : State) : Data := (0 : BitVec 31) ++ BitVec.ofBool (bitOfVariant s.variant)

/-- The FAULTINFO register (R43). -/
def State.faultWord (s : State) : Data :=
  (0 : BitVec 11) ++ s.faultPhase.code ++ s.faultByte ++ (0 : BitVec 4) ++ s.cause.code

/-- The output `fatal_o` (R251). -/
def State.fatalO (s : State) : Bool := s.fatal

end Sys2Proof.Machine
end

