-- ==== Sys2Proof/Machine/Ops.lean ====
section
/-! DEFINITION. The named operations over the state that every meaning is written with: memory bytes,
one update for each register, emission, the bus answers, rejection, fatal entry and reset, and the
agenda. -/

namespace Sys2Proof.Machine

/-! ### Memory -/

/-- The byte at an address; an unlisted address reads as 0x00. -/
def Memory.read : Memory → Nat → Byte
  | [], _ => 0
  | (k, b) :: m, a => if k = a then b else Memory.read m a

/-- Memory with nothing listed at an address. -/
def Memory.erase (m : Memory) (a : Nat) : Memory := m.filter fun c => c.1 != a

/-- Memory with a byte listed at an address, before the first higher address. -/
def Memory.insert : Memory → Nat → Byte → Memory
  | [], a, b => [(a, b)]
  | (k, c) :: m, a, b => if a < k then (a, b) :: (k, c) :: m else (k, c) :: Memory.insert m a b

/-- Memory after a byte is stored; storing 0x00, which an unlisted address reads as, lists nothing. -/
def Memory.write (m : Memory) (a : Nat) (b : Byte) : Memory :=
  if b = 0 then Memory.erase m a else Memory.insert (Memory.erase m a) a b

/-- The addresses rise from `lo`, stay below 0x400, list no 0x00, and lane 3 holds V alone. -/
def Memory.wfFrom : Nat → Memory → Bool
  | _, [] => true
  | lo, (k, b) :: m => decide (lo ≤ k) && decide (k < 0x400) && b != 0 && (k % 4 != 3 || b == 1) && Memory.wfFrom (k + 1) m

/-- The canonical form of the Frame Buffer's memory. -/
def Memory.wf (m : Memory) : Bool := Memory.wfFrom 0 m

/-! ### One update for each register -/

def State.setFb (s : State) (m : Memory) : State := { s with fb := m }
def State.setReady (s : State) (b : Bool) : State := { s with ready := b }
def State.setSnap (s : State) (v : Vector Byte 768) : State := { s with snap := v }
def State.setVariant (s : State) (v : Variant) : State := { s with variant := v }
def State.setPhase (s : State) (p : Phase) : State := { s with phase := p }
def State.setConn (s : State) (b : Bool) : State := { s with conn := b }
def State.setCmdErr (s : State) (c : CmdErr) : State := { s with cmdErr := c }
def State.setTxcnt (s : State) (n : Fin 768) : State := { s with txcnt := n }
def State.setRxFifo (s : State) (q : List Byte) : State := { s with rxFifo := q }

/-- The effect latch of an accepted EFFECT (R38, R183): EF_VAL <- (hasval ? val : 0). -/
def State.latchEffect (s : State) (code : Byte) (hasval : Bool) (val : Byte) : State :=
  { s with efCode := code, efHasVal := hasval, efVal := if hasval then val else 0 }

/-- `emit(b)`: one byte appended to the TX stream (spec/00_scope.md §6). -/
def State.emit (s : State) (b : Byte) : State := { s with tx := s.tx ++ [b] }

/-- One free value has been drawn. -/
def State.drawn (s : State) : State := { s with draws := s.draws + 1 }

/-! ### Answers of the producer bus -/

/-- Response OKAY with rdata; a write has rdata 0 (R61, R141). -/
def State.okay (s : State) (rdata : Data) : State := { s with busResp := some { err := false, rdata := rdata } }

/-- Response ERR, rdata 0x00000000 (R61, R155). -/
def State.busError (s : State) : State := { s with busResp := some { err := true, rdata := 0 } }

/-- An accepted CMD or CONFIG write ends with CMDERR <- OK (R143) and response OKAY (R141). -/
def State.accept (s : State) : State := (s.setCmdErr .ok).okay 0

/-- `reject(code)`: CMDERR <- code and no other state change; the response is still OKAY (R141, R142). -/
def State.reject (s : State) (code : CmdErr) : State := (s.setCmdErr code).okay 0

/-! ### Taking a fatal error, and the only return from one -/

/-- `raise Fatal(cause, byte)` (R241): fatal entry, the one description every fault source shares. What
saves what: FAULT_PHASE saves the phase, CAUSE and FAULT_BYTE the reason; CONN, TXCNT and the RX FIFO
are cleared; PHASE goes to the variant's fatal sequence. With FATAL = 1 it changes nothing. -/
def State.raiseFatal (s : State) (cause : Cause) (byte : Byte) : State :=
  if s.fatal then s
  else
    { s with
      fatal := true
      cause := cause
      faultByte := byte
      faultPhase := s.phase
      conn := false
      txcnt := 0
      rxFifo := []
      phase := if s.variant = .socket then .fltQ0 else .fltZ }

/-- Reset (R270, R271): "There is no return from a fatal error" but this one (R246). Every piece of
the block's state takes its reset value. The bytes already emitted are with the Device, and the
parameters, the agenda and the draws are not the block's: they stay (assumption log entry 6). -/
def State.resetBlock (s : State) : State :=
  { State.reset with
    tx := s.tx
    rxFifoDepth := s.rxFifoDepth
    busySetPolicy := s.busySetPolicy
    agenda := s.agenda
    draws := s.draws }

/-! ### The agenda -/

/-- The step taken next: the agenda's first entry, or, where it is empty, a free choice (R4). -/
def State.nextEvent (s : State) : Event :=
  match s.agenda with
  | [] => .agent (Config.freeStep s.draws)
  | e :: _ => e

/-- The state in which that step is taken: the entry, or the draw, is used up. -/
def State.afterFetch (s : State) : State :=
  match s.agenda with
  | [] => s.drawn
  | _ :: rest => { s with agenda := rest }

/-- The state with one more entry before the rest of its agenda. -/
def State.withEvent (s : State) (e : Event) : State := { s with agenda := e :: s.agenda }

end Sys2Proof.Machine
end

