-- ==== Sys2Proof/Machine/Operands.lean ====
section
/-! DEFINITION. The Frame Buffer's entries as operands: the record {V, R, G, B} of FB[p]
(spec/10_state.md R22), its read word (spec/30_encoding.md R81) and its write. -/

namespace Sys2Proof.Machine

/-- The byte address of lane k of FB[p] (R64, R66). -/
def fbLane (p k : Nat) : Nat := 4 * p + k

/-- FB[p].V (R22): bit 24 of the pixel's word, bit 0 of its lane 3. -/
def Memory.valid (m : Memory) (p : Nat) : Bool := (Memory.read m (fbLane p 3)).getLsbD 0

/-- FB[p].R, FB[p].G and FB[p].B (R22, lanes of R66). -/
def Memory.rgb (m : Memory) (p : Nat) : Rgb where
  r := Memory.read m (fbLane p 2)
  g := Memory.read m (fbLane p 1)
  b := Memory.read m (fbLane p 0)

/-- FB[p] <- {V: 1, R, G, B} (R145). -/
def Memory.writePixel (m : Memory) (p : Nat) (x : Rgb) : Memory :=
  let m0 := Memory.write m (fbLane p 0) x.b
  let m1 := Memory.write m0 (fbLane p 1) x.g
  let m2 := Memory.write m1 (fbLane p 2) x.r
  Memory.write m2 (fbLane p 3) 1

/-- Every FB entry has V = 1 (R190). -/
def Memory.allValid (m : Memory) : Bool := (List.range 256).all fun p => Memory.valid m p

/-- PIXW on a read of a written pixel: {0b0000000, V = 1, R, G, B} (R81, R146). -/
def pixelWord (x : Rgb) : Data := (0 : BitVec 7) ++ BitVec.ofBool true ++ x.r ++ x.g ++ x.b

/-- PIXW on a read of an unset pixel: V = 0, and bits 23:0 a free value (R23, R146). -/
def unsetPixelWord (draw : Nat) : Data := (0 : BitVec 7) ++ BitVec.ofBool false ++ Config.freeRgb draw

end Sys2Proof.Machine
end

