-- ==== Sys2Proof/Machine/Encoder.lean ====
section
/-! DEFINITION. The Frame Encoder (spec/40_frame_encoder.md): a pure function of the variant and of a
snapshot, given as the pixel at each index 0..255 in row-major order. -/

namespace Sys2Proof.Machine

/-- The source index of wire position q: odd rows are reversed (R111). -/
def zigzagSrc (q : Nat) : Nat :=
  let r := q / 16
  let c := q % 16
  if r % 2 = 0 then 16 * r + c else 16 * r + (15 - c)

/-- Stage 1, zigzag reorder: Z[q] = S[src q] (R111). -/
def zigzag (S : Nat → Rgb) (q : Nat) : Rgb := S (zigzagSrc q)

/-- Stage 4, reserved-byte substitution of one lane (R114). -/
def substZero (v : Byte) : Byte := if v = 0 then 1 else v

/-- The three bytes of one wire pixel: the channel order (R113), and in the socket variant the
substitution (R114). -/
def pixelBytes (v : Variant) (x : Rgb) : List Byte :=
  match v with
  | .serial => [x.r, x.g, x.b]
  | .socket => [substZero x.g, substZero x.r, substZero x.b]

/-- Encode(VARIANT, S) as a byte sequence (R112, R115). -/
def encodeBytes (v : Variant) (S : Nat → Rgb) : List Byte :=
  (List.range 256).flatMap fun q => pixelBytes v (zigzag S q)

/-- A wire pixel is three bytes. -/
theorem pixelBytes_length (v : Variant) (x : Rgb) : (pixelBytes v x).length = 3 := by
  cases v <;> rfl

/-- Wire pixels of three bytes each, one after the other, are three bytes for each index. -/
theorem flatMap_length_three (f : Nat → List Byte) (h : ∀ q, (f q).length = 3) (l : List Nat) :
    (l.flatMap f).length = 3 * l.length := by
  induction l with
  | nil => rfl
  | cons q l ih => simp only [List.flatMap_cons, List.length_append, List.length_cons, h, ih]; omega

/-- A frame is 768 bytes (R112). -/
theorem encodeBytes_length (v : Variant) (S : Nat → Rgb) : (encodeBytes v S).length = 768 := by
  rw [encodeBytes, flatMap_length_three _ (fun _ => pixelBytes_length _ _), List.length_range]

/-- Encode(VARIANT, S) (R115). -/
def encodeFrame (v : Variant) (S : Nat → Rgb) : Vector Byte 768 :=
  ⟨(encodeBytes v S).toArray, by rw [List.size_toArray, encodeBytes_length]⟩

end Sys2Proof.Machine
end

