-- ==== Sys2Proof/Machine/Engine.lean ====
section
/-! DEFINITION. The link-state handshake FSM (spec/42_link_fsm.md): the Engine's step in every phase,
the Device's delivery and the Timer's timeout. An agent that has no enabled step leaves the state as
it is (R184: "A hold is not an error"). -/

namespace Sys2Proof.Machine

/-- A WAIT phase's step (R211): it pops the oldest RX byte, checks it against ACKCODE, and on success
does the phase's own action. With an empty RX FIFO the Engine holds (R184). -/
def waitStep (s : State) (success : State → State) : State :=
  match s.rxFifo with
  | [] => s
  | b :: rest =>
    let popped := s.setRxFifo rest
    if b = s.phase.ackCode then success popped
    else if b = char .E then popped.raiseFatal .deviceError b
    else popped.raiseFatal .badByte b

/-- Consume: flag test-and-clear with snapshot, one atomic step (R190). -/
def consume (s : State) : State :=
  let cleared := s.setReady false
  if s.fb.allValid then
    ((cleared.setSnap (encodeFrame s.variant s.fb.rgb)).setTxcnt 0).setPhase
      (if s.variant = .socket then .txG0 else .txG1)
  else cleared.raiseFatal .unsetPixel 0

/-- Serial IDLE receive (R213): `E` is fatal, any other byte is discarded. -/
def serialIdleReceive (s : State) : State :=
  match s.rxFifo with
  | [] => s
  | b :: rest =>
    let popped := s.setRxFifo rest
    if b = char .E then popped.raiseFatal .deviceError b else popped

/-- The IDLE step and its priority (R189, R212). -/
def idleStep (s : State) : State :=
  if s.variant = .serial ∧ s.rxFifo ≠ [] then serialIdleReceive s
  else if s.ready then consume s
  else s

/-- SendFrame (R196): one SNAP byte a step; the 768th leaves the phase. -/
def frameStep (s : State) : State :=
  let sent := s.emit (s.snap.get s.txcnt)
  if s.txcnt = 767 then
    (sent.setTxcnt 0).setPhase
      (if s.variant = .socket then .txWaitD else .idle)
  else sent.setTxcnt (s.txcnt + 1)

/-- EF_CMD (R198): `Z` awaits no acknowledgement. -/
def effectCommandStep (s : State) : State :=
  (s.emit s.efCode).setPhase (if s.efCode = char .Z then .idle else .efWaitA1)

/-- The Engine's step, by phase (R184, R187). -/
def engineStep (s : State) : State :=
  match s.phase with
  | .disc => s
  | .hsK0 => (s.emit 0).setPhase .hsK1
  | .hsK1 => (s.emit (char .K)).setPhase .hsWaitS
  | .hsWaitS => waitStep s fun t => t.setPhase (if s.variant = .socket then .hsG0 else .hsG1)
  | .hsG0 => (s.emit 0).setPhase .hsG1
  | .hsG1 => (s.emit (char .G)).setPhase .hsWaitA
  | .hsWaitA => waitStep s fun t => (t.setConn true).setPhase .idle
  | .idle => idleStep s
  | .txG0 => (s.emit 0).setPhase .txG1
  | .txG1 => (s.emit (char .G)).setPhase .txWaitA
  | .txWaitA => waitStep s fun t => (t.setTxcnt 0).setPhase .txFrame
  | .txFrame => frameStep s
  | .txWaitD => waitStep s fun t => t.setPhase .idle
  | .efCmd => effectCommandStep s
  | .efWaitA1 => waitStep s fun t => t.setPhase (if s.efHasVal then .efVal else .efWaitD)
  | .efVal => (s.emit s.efVal).setPhase .efWaitA2
  | .efWaitA2 => waitStep s fun t => t.setPhase .efWaitD
  | .efWaitD => waitStep s fun t => t.setPhase .idle
  | .dcQ0 => (s.emit 0).setPhase .dcQ1
  | .dcQ1 => (s.emit (char .Q)).setPhase .disc
  | .fltZ => (s.emit (char .Z)).setPhase .halt
  | .fltQ0 => (s.emit 0).setPhase .fltQ1
  | .fltQ1 => (s.emit (char .Q)).setPhase .halt
  | .halt => s

/-- Device delivery of one byte (R210). -/
def deliver (s : State) (b : Byte) : State :=
  if s.phase.rxOpen then
    if s.rxFifoDepth ≤ s.rxFifo.length then s.raiseFatal .rxOverflow 0
    else s.setRxFifo (s.rxFifo ++ [b])
  else s

/-- Timer timeout (R214): only in a WAIT phase other than EF_WAIT_D, with an empty RX FIFO. -/
def timeoutStep (s : State) : State :=
  if s.phase.isWait ∧ s.phase ≠ .efWaitD ∧ s.rxFifo = [] then s.raiseFatal .timeout 0 else s

end Sys2Proof.Machine
end

