-- ==== Sys2Proof/Machine/Commands.lean ====
section
/-! DEFINITION. The meanings of the producer operations that start Engine sequences: CONNECT,
DISCONNECT and EFFECT (spec/42_link_fsm.md). -/

namespace Sys2Proof.Machine

/-- CONNECT (R180). -/
def execConnect (s : State) : Host.Outcome State Fault Refusal :=
  .next (
    if s.fatal then s.reject .rejFatal
    else if s.phase ≠ .disc then s.reject .rejState
    else ((s.setRxFifo []).setPhase (if s.variant = .socket then .hsK0 else .hsWaitS)).accept)

/-- DISCONNECT (R182). -/
def execDisconnect (s : State) : Host.Outcome State Fault Refusal :=
  .next (
    if s.fatal then s.reject .rejFatal
    else if s.conn = false then s.reject .rejState
    else if s.phase ≠ .idle then s.reject .rejBusy
    else ((s.setConn false).setPhase (if s.variant = .socket then .dcQ0 else .disc)).accept)

/-- EFFECT (R183). -/
def execEffect (code : Byte) (hasval : Bool) (val : Byte) (s : State) : Host.Outcome State Fault Refusal :=
  .next (
    if s.fatal then s.reject .rejFatal
    else if s.variant = .socket then s.reject .rejUnsupported
    else if code ≠ char .B ∧ code ≠ char .T ∧ code ≠ char .Z then s.reject .rejUnsupported
    else if code = char .Z ∧ hasval then s.reject .rejUnsupported
    else if s.conn = false then s.reject .rejState
    else if s.phase ≠ .idle then s.reject .rejBusy
    else ((s.latchEffect code hasval val).setPhase .efCmd).accept)

end Sys2Proof.Machine
end

