-- ==== Sys2Proof/Machine/Producer.lean ====
section
/-! DEFINITION. The meanings of the producer operations on the Frame Buffer, the flag and the
registers (spec/41_producer_ops.md). Every one is enabled in every state (R140). -/

namespace Sys2Proof.Machine

/-- BUS_ERR (R155): response ERR, no state change, CMDERR included. -/
def execBusErr (_w : Bool) (_addr : Addr) (_wdata : Data) (s : State) : Host.Outcome State Fault Refusal :=
  .next s.busError

/-- WRPX (R145): FB[p] <- {V: 1, R, G, B}. -/
def execWrpx (p r g b : Byte) (s : State) : Host.Outcome State Fault Refusal :=
  .next ((s.setFb (s.fb.writePixel p.toNat { r := r, g := g, b := b })).okay 0)

/-- RDPX (R146). While V = 0, bits 23:0 are a free value (R23). -/
def execRdpx (p : Byte) (s : State) : Host.Outcome State Fault Refusal :=
  .next (if s.fb.valid p.toNat then s.okay (pixelWord (s.fb.rgb p.toNat))
    else s.drawn.okay (unsetPixelWord s.draws))

/-- SET_READY (R147, R144): under DROP a set in TXP is lost. -/
def execSetReady (s : State) : Host.Outcome State Fault Refusal :=
  .next (if s.busySetPolicy = .drop ∧ s.phase.inTxp then s.accept else (s.setReady true).accept)

/-- CLEAR_READY (R148). -/
def execClearReady (s : State) : Host.Outcome State Fault Refusal := .next (s.setReady false).accept

/-- RDSTATUS (R149). -/
def execRdstatus (s : State) : Host.Outcome State Fault Refusal := .next (s.okay s.statusWord)

/-- WRCONFIG (R150): accepted only while PHASE = DISC. -/
def execWrconfig (v : Variant) (s : State) : Host.Outcome State Fault Refusal :=
  .next (if s.phase = .disc then (s.setVariant v).accept else s.reject .rejState)

/-- RDCONFIG (R151). -/
def execRdconfig (s : State) : Host.Outcome State Fault Refusal := .next (s.okay s.configWord)

/-- RDFAULT (R152). -/
def execRdfault (s : State) : Host.Outcome State Fault Refusal := .next (s.okay s.faultWord)

/-- CMD_ILLEGAL (R153). -/
def execCmdIllegal (_op : Byte) (s : State) : Host.Outcome State Fault Refusal := .next (s.reject .rejIllegal)

/-- RDCMD (R154): CMD is write-only and reads as 0x00000000. -/
def execRdcmd (s : State) : Host.Outcome State Fault Refusal := .next (s.okay 0)

end Sys2Proof.Machine
end

