-- ==== Sys2Proof/Machine/Tokens.lean ====
section
/-! DEFINITION. The meanings of the wire tokens (spec/30_encoding.md R91, R92). A host-to-device token
is an Engine emission: its meaning is the Engine's step while the Engine is in a phase that emits a
byte of that token, one byte a step (R4), and a hold in every other state (R184). A device-to-host
token is the Device's delivery of its byte (R210). -/

namespace Sys2Proof.Machine

/-- The Engine's step where it emits a byte of the token, else a hold. -/
def emission (emits : Bool) (s : State) : Host.Outcome State Fault Refusal :=
  .next (if emits then engineStep s else s)

/-- The value byte of the effect in flight, if it has one (R38). -/
def State.effectValue (s : State) : Option Byte := if s.efHasVal then some s.efVal else none

/-- The Engine emits a byte of the effect token `code`, value `val`: the code in EF_CMD, the value in
EF_VAL (R91, R198, R200). -/
def State.emitsEffect (s : State) (code : Byte) (val : Option Byte) : Bool :=
  (s.phase == .efCmd || s.phase == .efVal) && s.efCode == code && s.effectValue == val

/-- The Engine emits a byte of the frame `payload` in variant v (R91, R196). -/
def State.emitsFrame (s : State) (v : Variant) (payload : List Byte) : Bool :=
  s.phase == .txFrame && s.variant == v && s.snap.toList == payload

/-- TOK_GO_SERIAL: emitted in HS_G1 and TX_G1 of the serial variant (R91, R185, R191). -/
def execTokGoSerial (s : State) : Host.Outcome State Fault Refusal :=
  emission ((s.phase == .hsG1 || s.phase == .txG1) && s.variant == .serial) s

/-- TOK_BRIGHT: emitted in EF_CMD and EF_VAL (R91, R198, R200). -/
def execTokBright (val : Option Byte) (s : State) : Host.Outcome State Fault Refusal :=
  emission (s.emitsEffect (char .B) val) s

/-- TOK_TEST: emitted in EF_CMD and EF_VAL (R91, R198, R200). -/
def execTokTest (val : Option Byte) (s : State) : Host.Outcome State Fault Refusal :=
  emission (s.emitsEffect (char .T) val) s

/-- TOK_BLANK: emitted in EF_CMD, when the effect is `Z`, and in FLT_Z (R91, R198, R242). -/
def execTokBlank (s : State) : Host.Outcome State Fault Refusal :=
  emission ((s.phase == .efCmd && s.efCode == char .Z) || s.phase == .fltZ) s

/-- TOK_FRAME_SERIAL: emitted in TX_FRAME of the serial variant (R91, R196). -/
def execTokFrameSerial (payload : List Byte) (s : State) : Host.Outcome State Fault Refusal :=
  emission (s.emitsFrame .serial payload) s

/-- TOK_KEEPALIVE: emitted in HS_K0 and HS_K1 (R91, R185). -/
def execTokKeepalive (s : State) : Host.Outcome State Fault Refusal :=
  emission (s.phase == .hsK0 || s.phase == .hsK1) s

/-- TOK_GO_SOCKET: emitted in HS_G0 and TX_G0, and in HS_G1 and TX_G1 of the socket variant (R91,
R185, R191). -/
def execTokGoSocket (s : State) : Host.Outcome State Fault Refusal :=
  emission (s.phase == .hsG0 || s.phase == .txG0 ||
    ((s.phase == .hsG1 || s.phase == .txG1) && s.variant == .socket)) s

/-- TOK_QUIT: emitted in DC_Q0, DC_Q1, FLT_Q0 and FLT_Q1 (R91, R203, R242). -/
def execTokQuit (s : State) : Host.Outcome State Fault Refusal :=
  emission (s.phase == .dcQ0 || s.phase == .dcQ1 || s.phase == .fltQ0 || s.phase == .fltQ1) s

/-- TOK_FRAME_SOCKET: emitted in TX_FRAME of the socket variant (R91, R196). -/
def execTokFrameSocket (payload : List Byte) (s : State) : Host.Outcome State Fault Refusal :=
  emission (s.emitsFrame .socket payload) s

/-- TOK_S: the Device delivers `S` (R92, R210). -/
def execTokS (s : State) : Host.Outcome State Fault Refusal := .next (deliver s (char .S))

/-- TOK_A: the Device delivers `A` (R92, R210). -/
def execTokA (s : State) : Host.Outcome State Fault Refusal := .next (deliver s (char .A))

/-- TOK_E: the Device delivers `E` (R92, R210). -/
def execTokE (s : State) : Host.Outcome State Fault Refusal := .next (deliver s (char .E))

/-- TOK_D: the Device delivers `D` (R92, R210). -/
def execTokD (s : State) : Host.Outcome State Fault Refusal := .next (deliver s (char .D))

end Sys2Proof.Machine
end

