-- ==== Sys2Proof/Machine/Dispatch.lean ====
section
/-! DEFINITION. One arm per instruction. -/

namespace Sys2Proof.Machine

def exec (i : Instr) (s : State) : Host.Outcome State Fault Refusal :=
  match i with
  | .busErr w addr wdata => Sys2Proof.Machine.execBusErr w addr wdata s
  | .wrpx p r g b => Sys2Proof.Machine.execWrpx p r g b s
  | .rdpx p => Sys2Proof.Machine.execRdpx p s
  | .setReady => Sys2Proof.Machine.execSetReady s
  | .clearReady => Sys2Proof.Machine.execClearReady s
  | .connect => Sys2Proof.Machine.execConnect s
  | .disconnect => Sys2Proof.Machine.execDisconnect s
  | .effect code hasval val => Sys2Proof.Machine.execEffect code hasval val s
  | .cmdIllegal op => Sys2Proof.Machine.execCmdIllegal op s
  | .rdcmd => Sys2Proof.Machine.execRdcmd s
  | .rdstatus => Sys2Proof.Machine.execRdstatus s
  | .wrconfig v => Sys2Proof.Machine.execWrconfig v s
  | .rdconfig => Sys2Proof.Machine.execRdconfig s
  | .rdfault => Sys2Proof.Machine.execRdfault s
  | .tokGoSerial => Sys2Proof.Machine.execTokGoSerial s
  | .tokBright val => Sys2Proof.Machine.execTokBright val s
  | .tokTest val => Sys2Proof.Machine.execTokTest val s
  | .tokBlank => Sys2Proof.Machine.execTokBlank s
  | .tokFrameSerial payload => Sys2Proof.Machine.execTokFrameSerial payload s
  | .tokKeepalive => Sys2Proof.Machine.execTokKeepalive s
  | .tokGoSocket => Sys2Proof.Machine.execTokGoSocket s
  | .tokQuit => Sys2Proof.Machine.execTokQuit s
  | .tokFrameSocket payload => Sys2Proof.Machine.execTokFrameSocket payload s
  | .tokS => Sys2Proof.Machine.execTokS s
  | .tokA => Sys2Proof.Machine.execTokA s
  | .tokE => Sys2Proof.Machine.execTokE s
  | .tokD => Sys2Proof.Machine.execTokD s

end Sys2Proof.Machine
end

