-- ==== Sys2Proof/Machine/Run.lean ====
section
/-! DEFINITION. What the machine does with one agenda entry (spec/00_scope.md R4): an entry that
decodes to an instruction runs it; an Engine, Timer or reset step, and a delivered byte that is no
token of spec/30_encoding.md R92, act on the state directly. -/

namespace Sys2Proof.Machine

/-- One step of one agent. -/
def runEvent (e : Event) (s : State) : Host.Outcome State Fault Refusal :=
  match e with
  | .agent (.producer t) => exec (decodeBus t) s
  | .agent .engine => .next (engineStep s)
  | .agent (.device b) => match decodeDevice b with
    | some i => exec i s
    | none => .next (deliver s b)
  | .agent .timer => .next (timeoutStep s)
  | .agent .rst => .next s.resetBlock
  | .token v bytes => match decodeToken v bytes with
    | some i => exec i s
    | none => .fault .notAToken

end Sys2Proof.Machine
end

