-- ==== Sys2Proof/Machine/Step.lean ====
section
/-! DEFINITION. One step of the machine: the next agenda entry is taken and run. -/

namespace Sys2Proof.Machine

/-- One step of the global order of R4. -/
def step (s : State) : Host.Outcome State Fault Refusal := runEvent s.nextEvent s.afterFetch

/-- The state in which the next step runs the instruction whose bits are `w`, numbered as
spec/opcode_table.json numbers them: it becomes the agenda's first entry. -/
def State.withFetchWord (s : State) (nbits w : Nat) : State := s.withEvent (eventOfTableWord nbits w)

end Sys2Proof.Machine
end

