-- ==== Sys2Proof/Machine/Runs.lean ====
section
/-! DEFINITION. Infinite runs and weak fairness (spec/00_scope.md R3, R4; decision D1): which agent has
an enabled step, an infinite run as any order of the agents' steps and the states it goes through, and
what R4 assumes of it. A run is no part of State: it is what a claim about progress quantifies over. -/

namespace Sys2Proof.Machine

/-- The four agents of R3. -/
inductive Agent where
  | producer
  | engine
  | device
  | timer
deriving DecidableEq, Repr

/-- The agent whose step an entry is; none for reset, which is an input and no agent's step (R270). -/
def agentOf : AgentStep → Option Agent
  | .producer _ => some .producer
  | .engine => some .engine
  | .device _ => some .device
  | .timer => some .timer
  | .rst => none

/-- The Engine has an enabled step (R184, the table's middle column). -/
def EngineEnabled (s : State) : Prop :=
  (s.phase.isSend = true) ∨
  (s.phase.isWait = true ∧ s.rxFifo ≠ []) ∨
  (s.phase = .idle ∧ (s.ready = true ∨ (s.variant = .serial ∧ s.rxFifo ≠ [])))

/-- The agent has an enabled step in the state: the Producer always (R140), the Engine by R184, the
Device always (R210: "any byte b ... at any time"), the Timer by R214. -/
def Agent.Enabled : Agent → State → Prop
  | .producer, _ => True
  | .engine, s => EngineEnabled s
  | .device, _ => True
  | .timer, s => s.phase.isWait = true ∧ s.phase ≠ .efWaitD ∧ s.rxFifo = []

/-- An infinite run: entry n, taken in state n, leads to state n + 1. Every infinite order of the
agents' steps is the `entry` of one (R4). -/
def IsRun (entry : Nat → AgentStep) (state : Nat → State) : Prop :=
  ∀ n, step ((state n).withEvent (.agent (entry n))) = .next (state (n + 1))

/-- Weak fairness to one agent (R4): if from some point on it stays enabled, it steps after that point. -/
def WeaklyFairTo (a : Agent) (entry : Nat → AgentStep) (state : Nat → State) : Prop :=
  ∀ n, (∀ m, n ≤ m → a.Enabled (state m)) → ∃ m, n ≤ m ∧ agentOf (entry m) = some a

/-- Weak fairness (R4): "an agent that stays enabled eventually steps", of every agent. -/
def WeaklyFair (entry : Nat → AgentStep) (state : Nat → State) : Prop := ∀ a, WeaklyFairTo a entry state

end Sys2Proof.Machine
end

