-- ==== Sys2Proof/Safety.lean ====
section
/-! DEFINITION. The terms claims are stated in: the invariant of the machine, and the tables of the
spec that speak of the whole machine (fatal entry, the rows of R83, the transitions of R187, the phases
of R91), each written from the spec and not from the step function. -/

namespace Sys2Proof.Machine

/-! ### Sets of phases and of instructions -/

/-- The phases entered after a fatal error (R241, R242, R243). -/
def Phase.isFatal (p : Phase) : Bool := p == .fltZ || p == .fltQ0 || p == .fltQ1 || p == .halt

/-- The phases of the command effects (R30). -/
def Phase.isEffect (p : Phase) : Bool :=
  p == .efCmd || p == .efWaitA1 || p == .efVal || p == .efWaitA2 || p == .efWaitD

/-- The phases in which the handshake has completed and the link is still open (R33). -/
def Phase.isConnected (p : Phase) : Bool := p == .idle || p.inTxp || p.isEffect

/-- The phases entered in the socket variant alone (R30, last column). -/
def Phase.socketOnly (p : Phase) : Bool :=
  p == .hsK0 || p == .hsK1 || p == .hsG0 || p == .txG0 || p == .txWaitD || p == .dcQ0 || p == .dcQ1 ||
    p == .fltQ0 || p == .fltQ1

/-- The phases entered in the serial variant alone (R30, last column). -/
def Phase.serialOnly (p : Phase) : Bool := p.isEffect || p == .fltZ

/-- The writes to CMD and to CONFIG (R143). -/
def writesCmdOrConfig : Instr → Bool
  | .busErr _ _ _ => false
  | .wrpx _ _ _ _ => false
  | .rdpx _ => false
  | .setReady => true
  | .clearReady => true
  | .connect => true
  | .disconnect => true
  | .effect _ _ _ => true
  | .cmdIllegal _ => true
  | .rdcmd => false
  | .rdstatus => false
  | .wrconfig _ => true
  | .rdconfig => false
  | .rdfault => false
  | .tokGoSerial => false
  | .tokBright _ => false
  | .tokTest _ => false
  | .tokBlank => false
  | .tokFrameSerial _ => false
  | .tokKeepalive => false
  | .tokGoSocket => false
  | .tokQuit => false
  | .tokFrameSocket _ => false
  | .tokS => false
  | .tokA => false
  | .tokE => false
  | .tokD => false

/-- The producer operations of R83. -/
def isProducerOp : Instr → Bool
  | .busErr _ _ _ => true
  | .wrpx _ _ _ _ => true
  | .rdpx _ => true
  | .setReady => true
  | .clearReady => true
  | .connect => true
  | .disconnect => true
  | .effect _ _ _ => true
  | .cmdIllegal _ => true
  | .rdcmd => true
  | .rdstatus => true
  | .wrconfig _ => true
  | .rdconfig => true
  | .rdfault => true
  | .tokGoSerial => false
  | .tokBright _ => false
  | .tokTest _ => false
  | .tokBlank => false
  | .tokFrameSerial _ => false
  | .tokKeepalive => false
  | .tokGoSocket => false
  | .tokQuit => false
  | .tokFrameSocket _ => false
  | .tokS => false
  | .tokA => false
  | .tokE => false
  | .tokD => false

/-- The phases that emit a byte of a host-to-device token (R91, last column); none for another
instruction. -/
def emittedIn : Instr → List Phase
  | .busErr _ _ _ => []
  | .wrpx _ _ _ _ => []
  | .rdpx _ => []
  | .setReady => []
  | .clearReady => []
  | .connect => []
  | .disconnect => []
  | .effect _ _ _ => []
  | .cmdIllegal _ => []
  | .rdcmd => []
  | .rdstatus => []
  | .wrconfig _ => []
  | .rdconfig => []
  | .rdfault => []
  | .tokGoSerial => [.hsG1, .txG1]
  | .tokBright _ => [.efCmd, .efVal]
  | .tokTest _ => [.efCmd, .efVal]
  | .tokBlank => [.efCmd, .fltZ]
  | .tokFrameSerial _ => [.txFrame]
  | .tokKeepalive => [.hsK0, .hsK1]
  | .tokGoSocket => [.hsG0, .hsG1, .txG0, .txG1]
  | .tokQuit => [.dcQ0, .dcQ1, .fltQ0, .fltQ1]
  | .tokFrameSocket _ => [.txFrame]
  | .tokS => []
  | .tokA => []
  | .tokE => []
  | .tokD => []

/-- The variant of a host-to-device token (R91, first column). -/
def tokenVariant : Instr → Option Variant
  | .busErr _ _ _ => none
  | .wrpx _ _ _ _ => none
  | .rdpx _ => none
  | .setReady => none
  | .clearReady => none
  | .connect => none
  | .disconnect => none
  | .effect _ _ _ => none
  | .cmdIllegal _ => none
  | .rdcmd => none
  | .rdstatus => none
  | .wrconfig _ => none
  | .rdconfig => none
  | .rdfault => none
  | .tokGoSerial => some .serial
  | .tokBright _ => some .serial
  | .tokTest _ => some .serial
  | .tokBlank => some .serial
  | .tokFrameSerial _ => some .serial
  | .tokKeepalive => some .socket
  | .tokGoSocket => some .socket
  | .tokQuit => some .socket
  | .tokFrameSocket _ => some .socket
  | .tokS => none
  | .tokA => none
  | .tokE => none
  | .tokD => none

/-! ### Tables of the spec -/

/-- The state after fatal entry from a state with FATAL = 0 (R241, the pseudocode's eight writes). -/
def fatalEntry (s : State) (cause : Cause) (byte : Byte) : State :=
  { s with
    fatal := true, cause := cause, faultByte := byte, faultPhase := s.phase, conn := false, txcnt := 0, rxFifo := [],
    phase := if s.variant = .socket then .fltQ0 else .fltZ }

/-- The row of R83 that a transaction selects, with the operands of R84. -/
def Selects (w : Bool) (addr : Addr) (wdata : Data) : Instr → Prop
  | .busErr w' addr' wdata' =>
    (addr.extractLsb' 0 2 ≠ 0 ∨ 0x410 ≤ addr.toNat ∨ (w = true ∧ (addr = 0x404 ∨ addr = 0x40C))) ∧
      w' = w ∧ addr' = addr ∧ wdata' = wdata
  | .wrpx p r g b =>
    w = true ∧ addr.extractLsb' 10 2 = 0 ∧ addr.extractLsb' 0 2 = 0 ∧ p = addr.extractLsb' 2 8 ∧
      r = wdata.extractLsb' 16 8 ∧ g = wdata.extractLsb' 8 8 ∧ b = wdata.extractLsb' 0 8
  | .rdpx p => w = false ∧ addr.extractLsb' 10 2 = 0 ∧ addr.extractLsb' 0 2 = 0 ∧ p = addr.extractLsb' 2 8
  | .setReady => w = true ∧ addr = 0x400 ∧ wdata.extractLsb' 24 8 = 0x01
  | .clearReady => w = true ∧ addr = 0x400 ∧ wdata.extractLsb' 24 8 = 0x02
  | .connect => w = true ∧ addr = 0x400 ∧ wdata.extractLsb' 24 8 = 0x03
  | .disconnect => w = true ∧ addr = 0x400 ∧ wdata.extractLsb' 24 8 = 0x04
  | .effect code hasval val =>
    w = true ∧ addr = 0x400 ∧ wdata.extractLsb' 24 8 = 0x05 ∧ code = wdata.extractLsb' 16 8 ∧
      hasval = wdata.getLsbD 8 ∧ val = wdata.extractLsb' 0 8
  | .cmdIllegal op =>
    w = true ∧ addr = 0x400 ∧ op = wdata.extractLsb' 24 8 ∧ ¬ (1 ≤ op.toNat ∧ op.toNat ≤ 5)
  | .rdcmd => w = false ∧ addr = 0x400
  | .rdstatus => w = false ∧ addr = 0x404
  | .wrconfig v => w = true ∧ addr = 0x408 ∧ (v = .socket ↔ wdata.getLsbD 0 = true)
  | .rdconfig => w = false ∧ addr = 0x408
  | .rdfault => w = false ∧ addr = 0x40C
  | .tokGoSerial => False
  | .tokBright _ => False
  | .tokTest _ => False
  | .tokBlank => False
  | .tokFrameSerial _ => False
  | .tokKeepalive => False
  | .tokGoSocket => False
  | .tokQuit => False
  | .tokFrameSocket _ => False
  | .tokS => False
  | .tokA => False
  | .tokE => False
  | .tokD => False

/-- What drives a transition of R187 (its column "event"). -/
inductive Driver where
  | connect
  | disconnect
  | effect
  | engine
  | device
  | timer
deriving DecidableEq, Repr

/-- The driver that a producer operation is; none for the operations that change no PHASE. -/
def producerDriver : Instr → Option Driver
  | .busErr _ _ _ => none
  | .wrpx _ _ _ _ => none
  | .rdpx _ => none
  | .setReady => none
  | .clearReady => none
  | .connect => some .connect
  | .disconnect => some .disconnect
  | .effect _ _ _ => some .effect
  | .cmdIllegal _ => none
  | .rdcmd => none
  | .rdstatus => none
  | .wrconfig _ => none
  | .rdconfig => none
  | .rdfault => none
  | .tokGoSerial => none
  | .tokBright _ => none
  | .tokTest _ => none
  | .tokBlank => none
  | .tokFrameSerial _ => none
  | .tokKeepalive => none
  | .tokGoSocket => none
  | .tokQuit => none
  | .tokFrameSocket _ => none
  | .tokS => none
  | .tokA => none
  | .tokE => none
  | .tokD => none

/-- The driver that an agenda entry is; none for reset, which is no row of R187. -/
def driverOf : Event → Option Driver
  | .agent (.producer t) => producerDriver (decodeBus t)
  | .agent .engine => some .engine
  | .agent (.device _) => some .device
  | .agent .timer => some .timer
  | .agent .rst => none
  | .token _ _ => some .engine

/-- The phase that fatal entry goes to (R241). -/
def fatalPhase : Variant → Phase
  | .serial => .fltZ
  | .socket => .fltQ0

/-- A row of R187. -/
structure TransitionRow where
  src : Phase
  driver : Driver
  dst : Phase
deriving DecidableEq, Repr

/-- The two targets of a row that depends on VARIANT: "v ? a : b" (R187). -/
def bySocket (v : Variant) (a b : Phase) : Phase :=
  match v with
  | .socket => a
  | .serial => b

/-- The rows of R187 that change PHASE and are no fatal entry. -/
def plainTransitions (v : Variant) : List TransitionRow :=
  [TransitionRow.mk .disc .connect (bySocket v .hsK0 .hsWaitS),
   TransitionRow.mk .hsK0 .engine .hsK1,
   TransitionRow.mk .hsK1 .engine .hsWaitS,
   TransitionRow.mk .hsWaitS .engine (bySocket v .hsG0 .hsG1),
   TransitionRow.mk .hsG0 .engine .hsG1,
   TransitionRow.mk .hsG1 .engine .hsWaitA,
   TransitionRow.mk .hsWaitA .engine .idle,
   TransitionRow.mk .idle .engine (bySocket v .txG0 .txG1),
   TransitionRow.mk .idle .effect .efCmd,
   TransitionRow.mk .idle .disconnect (bySocket v .dcQ0 .disc),
   TransitionRow.mk .txG0 .engine .txG1,
   TransitionRow.mk .txG1 .engine .txWaitA,
   TransitionRow.mk .txWaitA .engine .txFrame] ++
  [TransitionRow.mk .txFrame .engine (bySocket v .txWaitD .idle),
   TransitionRow.mk .txWaitD .engine .idle,
   TransitionRow.mk .efCmd .engine .idle,
   TransitionRow.mk .efCmd .engine .efWaitA1,
   TransitionRow.mk .efWaitA1 .engine .efVal,
   TransitionRow.mk .efWaitA1 .engine .efWaitD,
   TransitionRow.mk .efVal .engine .efWaitA2,
   TransitionRow.mk .efWaitA2 .engine .efWaitD,
   TransitionRow.mk .efWaitD .engine .idle,
   TransitionRow.mk .dcQ0 .engine .dcQ1,
   TransitionRow.mk .dcQ1 .engine .disc,
   TransitionRow.mk .fltZ .engine .halt,
   TransitionRow.mk .fltQ0 .engine .fltQ1,
   TransitionRow.mk .fltQ1 .engine .halt]

/-- A row of R187 leads from PHASE to PHASE on this event in this variant. -/
def Transition (v : Variant) (src : Phase) (d : Driver) (dst : Phase) : Prop :=
  TransitionRow.mk src d dst ∈ plainTransitions v ∨
  (dst = fatalPhase v ∧ ((d = .engine ∧ (src.isWait = true ∨ src = .idle)) ∨
    (d = .timer ∧ src.isWait = true ∧ src ≠ .efWaitD) ∨
    (d = .device ∧ src.rxOpen = true)))

/-- The agenda entries that are an Engine step: the Engine's own, and an emission named by its token. -/
def isEngineEntry : Event → Bool
  | .agent .engine => true
  | .token _ _ => true
  | _ => false

/-- In the state s the Engine's step and the token's meaning are the same step, to the state t. -/
def Sends (s : State) (i : Instr) (t : State) : Prop :=
  exec i s = .next t ∧ step (s.withEvent (.agent .engine)) = .next t

/-- The state after n steps, if none of them stops. -/
def stepsFrom : Nat → State → Option State
  | 0, s => some s
  | n + 1, s => match step s with
    | .next t => stepsFrom n t
    | .fault _ => none
    | .refused _ => none

/-! ### The invariant -/

/-- What holds of every state from reset on. Its fields are about the registers' joint values; that
the registers' own codes are legal (R30, R35, R43) is in their types. -/
structure Inv (s : State) : Prop where
  /-- The Frame Buffer is in its canonical form, and its V lanes hold V alone. -/
  fb_wf : s.fb.wf = true
  /-- RX_FIFO_DEPTH is at least 1 (R5), and the FIFO holds at most that many bytes (R37). -/
  depth_pos : 1 ≤ s.rxFifoDepth
  fifo_le : s.rxFifo.length ≤ s.rxFifoDepth
  /-- FATAL is set exactly in the phases after a fatal error (R241, R246). -/
  fatal_iff : s.fatal = s.phase.isFatal
  /-- CONN is set exactly while the link is open (R33). -/
  conn_iff : s.conn = s.phase.isConnected
  /-- After a fatal error the RX FIFO stays empty (R241, R210). -/
  fatal_fifo : s.fatal = true → s.rxFifo = []
  /-- FAULTINFO reads 0 while FATAL = 0, and records a cause and a phase with an open link otherwise
  (R43, R152, R240). -/
  fault_clear : s.fatal = false → s.cause = .none ∧ s.faultByte = 0 ∧ s.faultPhase = .disc
  fault_set : s.fatal = true → s.cause ≠ .none ∧ s.faultPhase.rxOpen = true
  /-- FAULT_BYTE by cause (R240). -/
  byte_bad : s.cause = .badByte → s.faultByte ≠ char .E
  byte_device : s.cause = .deviceError → s.faultByte = char .E
  byte_other : s.cause = .timeout ∨ s.cause = .unsetPixel ∨ s.cause = .rxOverflow → s.faultByte = 0
  /-- A phase of one variant is entered in that variant alone (R30). -/
  socket_only : s.phase.socketOnly = true → s.variant = .socket
  serial_only : s.phase.serialOnly = true → s.variant = .serial
  /-- TXCNT is 0 outside TX_FRAME (R36, R192). -/
  txcnt_zero : s.phase ≠ .txFrame → s.txcnt = 0
  /-- The effect latch holds what an accepted EFFECT wrote (R183). -/
  latch_val : s.efHasVal = false → s.efVal = 0
  latch_blank : s.efCode = char .Z → s.efHasVal = false
  effect_code : s.phase.isEffect = true → s.efCode = char .B ∨ s.efCode = char .T ∨ s.efCode = char .Z
  effect_ack : s.phase.isEffect = true → s.phase ≠ .efCmd → s.efCode ≠ char .Z
  effect_value : s.phase = .efVal ∨ s.phase = .efWaitA2 → s.efHasVal = true
  /-- The frame in flight has no 0x00 byte in the socket variant (R117). -/
  snap_nonzero : s.phase.inTxp = true → s.variant = .socket → s.snap.toList.all (· != 0) = true

end Sys2Proof.Machine
end

