-- ==== Sys2Proof/Certificates/Slice0/Obligations.lean ====
section
/-! DEFINITION. The statements for the provers. Those about one instruction or one agent's step give
the whole next state as an equation, so the frame (everything the equation does not name) is part of
each; those about every step say what a step can change. -/

open Sys2Proof Sys2Proof.Machine

/-! ### Encodings -/

/-- Words and bytes written out from R94, R83, R91 and R92 decode to what they stand for. -/
def Obligations.SpecWordsDecode : Prop :=
  decode (.agent (.producer 0x104400FF0000)) = .ok (.wrpx 17 255 0 0) ∧
  decode (.agent (.producer 0x004400000000)) = .ok (.rdpx 17) ∧
  decode (.agent (.producer 0x140001000000)) = .ok .setReady ∧
  decode (.agent (.producer 0x140005420180)) = .ok (.effect 0x42 true 0x80) ∧
  decode (.agent (.producer 0x140006000000)) = .ok (.cmdIllegal 6) ∧
  decode (.agent (.producer 0x140800000001)) = .ok (.wrconfig .socket) ∧
  decode (.agent (.producer 0x040C00000000)) = .ok .rdfault ∧
  decode (.agent (.producer 0x140412345678)) = .ok (.busErr true 0x404 0x12345678) ∧
  decode (.token .serial [0x47]) = .ok .tokGoSerial ∧
  decode (.token .serial [0x42, 0x80]) = .ok (.tokBright (some 0x80)) ∧
  decode (.token .socket [0x00, 0x51]) = .ok .tokQuit ∧
  decode (.agent (.device 0x45)) = .ok .tokE

/-- Decode and encode agree: every well-formed instruction is what its encoding decodes to, with every
operand at every value (R83, R84, R91, R92, R94). -/
def Obligations.DecodeOfEncodeIsTheInstruction : Prop :=
  ∀ i : Instr, i.wf = true → decode (encode i) = .ok i

/-- R83, R84 and R87: a transaction word {W, addr, wdata} decodes to an instruction, and to exactly the
one whose row of R83 it selects, with the operands of R84. -/
def Obligations.TransactionSelectsExactlyOneRow : Prop :=
  ∀ t : BusWord,
    (∃ i, decode (.agent (.producer t)) = .ok i) ∧
    ∀ i, decode (.agent (.producer t)) = .ok i ↔
      Selects (t.getLsbD 44) (t.extractLsb' 32 12) (t.extractLsb' 0 32) i

/-- R85: any value in an ignored field gives the same behaviour as 0. -/
def Obligations.IgnoredFieldsMakeNoDifference : Prop :=
  ∀ s : State,
    (∀ (addr : Addr) (x r g b : Byte), addr.extractLsb' 10 2 = 0 → addr.extractLsb' 0 2 = 0 →
      exec (decodeTransaction true addr (x ++ r ++ g ++ b)) s =
        exec (decodeTransaction true addr ((0 : Byte) ++ r ++ g ++ b)) s) ∧
    (∀ (op : Byte) (x : BitVec 24), op ≠ 0x05 →
      exec (decodeTransaction true 0x400 (op ++ x)) s = exec (decodeTransaction true 0x400 (op ++ (0 : BitVec 24))) s) ∧
    (∀ (code val : Byte) (x : BitVec 7) (h : BitVec 1),
      exec (decodeTransaction true 0x400 ((0x05 : Byte) ++ code ++ x ++ h ++ val)) s =
        exec (decodeTransaction true 0x400 ((0x05 : Byte) ++ code ++ (0 : BitVec 7) ++ h ++ val)) s) ∧
    (∀ (code val : Byte) (x : BitVec 7),
      exec (decodeTransaction true 0x400 ((0x05 : Byte) ++ code ++ x ++ (0 : BitVec 1) ++ val)) s =
        exec (decodeTransaction true 0x400 ((0x05 : Byte) ++ code ++ x ++ (0 : BitVec 1) ++ (0 : Byte))) s) ∧
    (∀ (x : BitVec 31) (v : BitVec 1),
      exec (decodeTransaction true 0x408 (x ++ v)) s = exec (decodeTransaction true 0x408 ((0 : BitVec 31) ++ v)) s)

/-- The wire tokens have one spelling each: bytes decode to a token exactly when the token is well
formed and those bytes are its encoding, in both directions of the link (R91, R92). -/
def Obligations.TokensHaveOneSpelling : Prop :=
  (∀ (v : Variant) (bytes : List Byte) (i : Instr),
    decode (.token v bytes) = .ok i ↔ i.wf = true ∧ encode i = .token v bytes) ∧
  (∀ (b : Byte) (i : Instr), decode (.agent (.device b)) = .ok i ↔ encode i = .agent (.device b))

/-- What the decoder answers is a well-formed instruction. -/
def Obligations.DecodedInstructionIsWellFormed : Prop :=
  ∀ (e : Event) (i : Instr), decode e = .ok i → i.wf = true

/-- A step runs the decoded instruction: when the agenda's first entry decodes to i, the step is exec
of i in the state with that entry used up; and a number put there by withFetchWord runs as the
instruction that decodeTableWord reads from it. The agenda and the numbering are the model's
(assumption log entries 2 and 4). -/
def Obligations.StepRunsTheDecodedInstruction : Prop :=
  (∀ (s : State) (e : Event) (i : Instr), decode e = .ok i → step (s.withEvent e) = exec i s) ∧
  (∀ (s : State) (nbits w : Nat) (i : Instr),
    decodeTableWord nbits w = some i → step (s.withFetchWord nbits w) = exec i s)

/-! ### Reset and the derived views -/

/-- The reset values that R270 gives, and what STATUS, CONFIG and FAULTINFO then read. -/
def Obligations.ResetValues : Prop :=
  (∀ p < 256, State.reset.fb.valid p = false) ∧
  State.reset.ready = false ∧ State.reset.variant = .serial ∧
  State.reset.phase = .disc ∧ State.reset.phase.lstate = 0 ∧ State.reset.phase.ackCode = 0 ∧
  State.reset.conn = false ∧ State.reset.fatal = false ∧ State.reset.fatalO = false ∧
  State.reset.cmdErr = .ok ∧ State.reset.txcnt = 0 ∧ State.reset.rxFifo = [] ∧
  State.reset.efCode = 0 ∧ State.reset.efHasVal = false ∧ State.reset.efVal = 0 ∧
  State.reset.phase.busy = false ∧
  State.reset.cause = .none ∧ State.reset.faultByte = 0 ∧ State.reset.faultPhase.code = 0 ∧
  State.reset.statusWord = 0 ∧ State.reset.configWord = 0 ∧ State.reset.faultWord = 0

/-- A reset in any state (R271): nothing is emitted, and every field of the block takes the value it has
in State.reset. That the parameters, the agenda and the count of draws stay is the model's choice
(assumption log entry 6), and SNAP's zeros are (entry 5). -/
def Obligations.ResetEndsAnyPhase : Prop :=
  ∀ s : State, step (s.withEvent (.agent .rst)) =
    .next { State.reset with
      tx := s.tx, rxFifoDepth := s.rxFifoDepth, busySetPolicy := s.busySetPolicy, agenda := s.agenda, draws := s.draws }

/-- R31 and R32, and BUSY of R39: LSTATE, ACKCODE and BUSY of each phase; and the codes of all 24 phases
(R30), all six causes (R240) and all six values of CMDERR (R35), which STATUS and FAULTINFO read. -/
def Obligations.LinkStateViews : Prop :=
  (∀ p : Phase,
    (p.lstate = 2 ↔ p = .hsWaitS ∨ p = .hsWaitA ∨ p = .txWaitA ∨ p = .txWaitD ∨ p = .efWaitA1 ∨ p = .efWaitA2 ∨ p = .efWaitD) ∧
    (p.lstate = 1 ↔ p = .idle) ∧
    (p.lstate = 3 ↔ p = .txG0 ∨ p = .txG1 ∨ p = .txFrame ∨ p = .efCmd ∨ p = .efVal) ∧
    (p.lstate = 0 ↔ p = .disc ∨ p = .hsK0 ∨ p = .hsK1 ∨ p = .hsG0 ∨ p = .hsG1 ∨ p = .dcQ0 ∨ p = .dcQ1 ∨
      p = .fltZ ∨ p = .fltQ0 ∨ p = .fltQ1 ∨ p = .halt) ∧
    (p.ackCode = 0x53 ↔ p = .hsWaitS) ∧
    (p.ackCode = 0x41 ↔ p = .hsWaitA ∨ p = .txWaitA ∨ p = .efWaitA1 ∨ p = .efWaitA2) ∧
    (p.ackCode = 0x44 ↔ p = .txWaitD ∨ p = .efWaitD) ∧
    (p.ackCode = 0x00 ↔ p.lstate ≠ 2) ∧
    (p.busy = true ↔ p ≠ .disc ∧ p ≠ .idle ∧ p ≠ .halt)) ∧
  ([Phase.disc, .hsK0, .hsK1, .hsWaitS, .hsG0, .hsG1, .hsWaitA, .idle].map Phase.code =
    [0x00, 0x01, 0x02, 0x03, 0x04, 0x05, 0x06, 0x07]) ∧
  ([Phase.txG0, .txG1, .txWaitA, .txFrame, .txWaitD, .efCmd, .efWaitA1, .efVal].map Phase.code =
    [0x08, 0x09, 0x0A, 0x0B, 0x0C, 0x0D, 0x0E, 0x0F]) ∧
  ([Phase.efWaitA2, .efWaitD, .dcQ0, .dcQ1, .fltZ, .fltQ0, .fltQ1, .halt].map Phase.code =
    [0x10, 0x11, 0x12, 0x13, 0x14, 0x15, 0x16, 0x17]) ∧
  ([Cause.none, .badByte, .deviceError, .timeout, .unsetPixel, .rxOverflow].map Cause.code = [0, 1, 2, 3, 4, 5]) ∧
  ([CmdErr.ok, .rejBusy, .rejFatal, .rejIllegal, .rejUnsupported, .rejState].map CmdErr.code = [0, 1, 2, 3, 4, 5])

/-! ### Producer operations -/

/-- R145: WRPX's operands, and that it stores the pixel it names and sets its V, changes no other byte
of the Frame Buffer, and no other state. The bytes stored are the four lanes of FB[p]. -/
def Obligations.WrpxWritesOnePixel : Prop :=
  (∀ (addr : Addr) (wdata : Data), addr.extractLsb' 10 2 = 0 → addr.extractLsb' 0 2 = 0 →
    decodeTransaction true addr wdata =
      .wrpx (addr.extractLsb' 2 8) (wdata.extractLsb' 16 8) (wdata.extractLsb' 8 8) (wdata.extractLsb' 0 8)) ∧
  ∀ (p r g b : Byte) (s : State), ∃ t, exec (.wrpx p r g b) s = .next t ∧
    t.fb.valid p.toNat = true ∧ t.fb.rgb p.toNat = { r := r, g := g, b := b } ∧
    (∀ a : Nat, a < fbLane p.toNat 0 ∨ fbLane p.toNat 0 + 4 ≤ a → Memory.read t.fb a = Memory.read s.fb a) ∧
    t = { s with fb := t.fb, busResp := some { err := false, rdata := 0 } }

/-- R146: RDPX returns the pixel, with V at bit 24; while V = 0 nothing is said of bits 23:0. It changes
no state but the bus answer. That a read of an unset pixel also counts one free value as drawn is the
model's choice (assumption log entry 1). -/
def Obligations.RdpxReadsOnePixel : Prop :=
  (∀ (addr : Addr) (wdata : Data), addr.extractLsb' 10 2 = 0 → addr.extractLsb' 0 2 = 0 →
    decodeTransaction false addr wdata = .rdpx (addr.extractLsb' 2 8)) ∧
  ∀ (p : Byte) (s : State), ∃ d : Data,
    exec (.rdpx p) s = .next { s with
      busResp := some { err := false, rdata := d }, draws := if s.fb.valid p.toNat then s.draws else s.draws + 1 } ∧
    d.extractLsb' 25 7 = 0 ∧ d.getLsbD 24 = s.fb.valid p.toNat ∧
    (s.fb.valid p.toNat = true → { r := d.extractLsb' 16 8, g := d.extractLsb' 8 8, b := d.extractLsb' 0 8 } = s.fb.rgb p.toNat)

/-- R144 and R147: SET_READY under both values of BUSY_SET_POLICY. -/
def Obligations.SetReadySetsTheFlag : Prop :=
  (∀ wdata : Data, wdata.extractLsb' 24 8 = 0x01 → decodeTransaction true 0x400 wdata = .setReady) ∧
  ∀ s : State, exec .setReady s = .next { s with
    ready := if s.busySetPolicy = .drop ∧
        (s.phase = .txG0 ∨ s.phase = .txG1 ∨ s.phase = .txWaitA ∨ s.phase = .txFrame ∨ s.phase = .txWaitD)
      then s.ready else true,
    cmdErr := .ok, busResp := some { err := false, rdata := 0 } }

/-- R148: CLEAR_READY, in every state. -/
def Obligations.ClearReadyClearsTheFlag : Prop :=
  (∀ wdata : Data, wdata.extractLsb' 24 8 = 0x02 → decodeTransaction true 0x400 wdata = .clearReady) ∧
  ∀ s : State, exec .clearReady s =
    .next { s with ready := false, cmdErr := .ok, busResp := some { err := false, rdata := 0 } }

/-- R28 and R149: RDSTATUS returns the live value of every field of STATUS, and changes no state. -/
def Obligations.RdstatusReturnsLiveFields : Prop :=
  (∀ wdata : Data, decodeTransaction false 0x404 wdata = .rdstatus ∧
    decodeTransaction true 0x404 wdata = .busErr true 0x404 wdata) ∧
  ∀ s : State, ∃ d : Data,
    exec .rdstatus s = .next { s with busResp := some { err := false, rdata := d } } ∧
    d.getLsbD 0 = s.ready ∧ d.getLsbD 1 = s.conn ∧ d.getLsbD 2 = s.fatal ∧ d.getLsbD 3 = s.phase.busy ∧
    d.extractLsb' 4 2 = s.phase.lstate ∧ d.extractLsb' 6 5 = s.phase.code ∧ d.extractLsb' 11 5 = 0 ∧
    d.extractLsb' 16 8 = s.phase.ackCode ∧ d.extractLsb' 24 3 = s.cmdErr.code ∧ d.extractLsb' 27 5 = 0

/-- R150: WRCONFIG is accepted in DISC and rejected with REJ_STATE in every other phase. -/
def Obligations.WrconfigOnlyInDisc : Prop :=
  (∀ wdata : Data, decodeTransaction true 0x408 wdata =
    .wrconfig (if wdata.getLsbD 0 = true then .socket else .serial)) ∧
  ∀ (v : Variant) (s : State), exec (.wrconfig v) s = .next (
    if s.phase = .disc then { s with variant := v, cmdErr := .ok, busResp := some { err := false, rdata := 0 } }
    else { s with cmdErr := .rejState, busResp := some { err := false, rdata := 0 } })

/-- R151: RDCONFIG returns VARIANT, zero-extended. -/
def Obligations.RdconfigReturnsVariant : Prop :=
  (∀ wdata : Data, decodeTransaction false 0x408 wdata = .rdconfig) ∧
  ∀ s : State, exec .rdconfig s = .next { s with
    busResp := some { err := false, rdata := if s.variant = .socket then 1 else 0 } }

/-- R43 and R152: RDFAULT returns the recorded fault, each field in its place; with FATAL = 0, in a state
that meets the invariant, it returns 0x00000000. -/
def Obligations.RdfaultReturnsTheRecord : Prop :=
  (∀ wdata : Data, decodeTransaction false 0x40C wdata = .rdfault ∧
    decodeTransaction true 0x40C wdata = .busErr true 0x40C wdata) ∧
  ∀ s : State, ∃ d : Data,
    exec .rdfault s = .next { s with busResp := some { err := false, rdata := d } } ∧
    d.extractLsb' 0 4 = s.cause.code ∧ d.extractLsb' 4 4 = 0 ∧ d.extractLsb' 8 8 = s.faultByte ∧
    d.extractLsb' 16 5 = s.faultPhase.code ∧ d.extractLsb' 21 11 = 0 ∧
    (Inv s → s.fatal = false → d = 0)

/-- R153: an undefined command sets CMDERR = 3 and changes nothing else. -/
def Obligations.CmdIllegalOnlyRejects : Prop :=
  (∀ wdata : Data, ¬ (1 ≤ (wdata.extractLsb' 24 8).toNat ∧ (wdata.extractLsb' 24 8).toNat ≤ 5) →
    decodeTransaction true 0x400 wdata = .cmdIllegal (wdata.extractLsb' 24 8)) ∧
  ∀ (op : Byte) (s : State), exec (.cmdIllegal op) s =
    .next { s with cmdErr := .rejIllegal, busResp := some { err := false, rdata := 0 } } ∧ CmdErr.rejIllegal.code = 3

/-- R154: a read of CMD returns 0x00000000 with response OKAY and has no effect. -/
def Obligations.RdcmdReadsZero : Prop :=
  (∀ wdata : Data, decodeTransaction false 0x400 wdata = .rdcmd) ∧
  ∀ s : State, exec .rdcmd s = .next { s with busResp := some { err := false, rdata := 0 } }

/-- R155: the three kinds of erroneous transaction, and that the operation they are changes no state. -/
def Obligations.BusErrChangesNothing : Prop :=
  (∀ (w : Bool) (addr : Addr) (wdata : Data) (s : State),
    exec (.busErr w addr wdata) s = .next { s with busResp := some { err := true, rdata := 0 } }) ∧
  (∀ (w : Bool) (addr : Addr) (wdata : Data),
    (addr.extractLsb' 0 2 ≠ 0 ∨ 0x410 ≤ addr.toNat ∨ (w = true ∧ (addr = 0x404 ∨ addr = 0x40C))) →
      decodeTransaction w addr wdata = .busErr w addr wdata)

/-- R140 and R141: every producer operation completes at once in every state, and is answered: ERR for
BUS_ERR, OKAY for every other. -/
def Obligations.ProducerOperationAlwaysCompletes : Prop :=
  ∀ (i : Instr) (s : State), isProducerOp i = true →
    ∃ t r, exec i s = .next t ∧ t.busResp = some r ∧ (r.err = true ↔ ∃ w addr wdata, i = .busErr w addr wdata)

/-- R35 and R143: a step changes CMDERR only if it is a write to CMD or CONFIG, or reset. -/
def Obligations.CmderrChangedOnlyByCmdOrConfigWrites : Prop :=
  ∀ s t : State, step s = .next t → t.cmdErr ≠ s.cmdErr →
    s.nextEvent = .agent .rst ∨ ∃ i, decode s.nextEvent = .ok i ∧ writesCmdOrConfig i = true

/-! ### Operations that start Engine sequences -/

/-- R180: CONNECT. -/
def Obligations.ConnectStartsTheHandshake : Prop :=
  (∀ wdata : Data, wdata.extractLsb' 24 8 = 0x03 → decodeTransaction true 0x400 wdata = .connect) ∧
  ∀ s : State, exec .connect s = .next (
    if s.fatal = true then { s with cmdErr := .rejFatal, busResp := some { err := false, rdata := 0 } }
    else if s.phase ≠ .disc then { s with cmdErr := .rejState, busResp := some { err := false, rdata := 0 } }
    else { s with
      rxFifo := [], phase := if s.variant = .socket then .hsK0 else .hsWaitS, cmdErr := .ok,
      busResp := some { err := false, rdata := 0 } })

/-- R182: DISCONNECT. -/
def Obligations.DisconnectClosesTheLink : Prop :=
  (∀ wdata : Data, wdata.extractLsb' 24 8 = 0x04 → decodeTransaction true 0x400 wdata = .disconnect) ∧
  ∀ s : State, exec .disconnect s = .next (
    if s.fatal = true then { s with cmdErr := .rejFatal, busResp := some { err := false, rdata := 0 } }
    else if s.conn = false then { s with cmdErr := .rejState, busResp := some { err := false, rdata := 0 } }
    else if s.phase ≠ .idle then { s with cmdErr := .rejBusy, busResp := some { err := false, rdata := 0 } }
    else { s with
      conn := false, phase := if s.variant = .socket then .dcQ0 else .disc, cmdErr := .ok,
      busResp := some { err := false, rdata := 0 } })

/-- R183: EFFECT, its rejections in their order and what an accepted one latches. -/
def Obligations.EffectLatchesTheCommand : Prop :=
  (∀ wdata : Data, wdata.extractLsb' 24 8 = 0x05 → decodeTransaction true 0x400 wdata =
    .effect (wdata.extractLsb' 16 8) (wdata.getLsbD 8) (wdata.extractLsb' 0 8)) ∧
  ∀ (code : Byte) (hasval : Bool) (val : Byte) (s : State), exec (.effect code hasval val) s = .next (
    if s.fatal = true then { s with cmdErr := .rejFatal, busResp := some { err := false, rdata := 0 } }
    else if s.variant = .socket then { s with cmdErr := .rejUnsupported, busResp := some { err := false, rdata := 0 } }
    else if ¬ (code = 0x42 ∨ code = 0x54 ∨ code = 0x5A) then
      { s with cmdErr := .rejUnsupported, busResp := some { err := false, rdata := 0 } }
    else if code = 0x5A ∧ hasval = true then
      { s with cmdErr := .rejUnsupported, busResp := some { err := false, rdata := 0 } }
    else if s.conn = false then { s with cmdErr := .rejState, busResp := some { err := false, rdata := 0 } }
    else if s.phase ≠ .idle then { s with cmdErr := .rejBusy, busResp := some { err := false, rdata := 0 } }
    else { s with
      efCode := code, efHasVal := hasval, efVal := if hasval = true then val else 0, phase := .efCmd, cmdErr := .ok,
      busResp := some { err := false, rdata := 0 } })

/-! ### The Frame Encoder -/

/-- R115: the three bytes of every wire pixel, in both variants. -/
def Obligations.EncodePlacesEveryByte : Prop :=
  ∀ (S : Nat → Rgb) (q : Nat), q < 256 →
    let x := S (if (q / 16) % 2 = 0 then 16 * (q / 16) + q % 16 else 16 * (q / 16) + (15 - q % 16))
    let subst := fun v : Byte => if v = 0 then (1 : Byte) else v
    ((encodeFrame .serial S).toList[3 * q]? = some x.r ∧ (encodeFrame .serial S).toList[3 * q + 1]? = some x.g ∧
      (encodeFrame .serial S).toList[3 * q + 2]? = some x.b) ∧
    ((encodeFrame .socket S).toList[3 * q]? = some (subst x.g) ∧
      (encodeFrame .socket S).toList[3 * q + 1]? = some (subst x.r) ∧
      (encodeFrame .socket S).toList[3 * q + 2]? = some (subst x.b))

/-- R116: the zigzag reorder is its own inverse, a bijection on 0..255, and the identity on even rows. -/
def Obligations.ZigzagIsItsOwnInverse : Prop :=
  (∀ (S : Nat → Rgb) (q : Nat), zigzag (zigzag S) q = S q) ∧
  (∀ q < 256, zigzagSrc q < 256) ∧
  (∀ p < 256, ∃ q, q < 256 ∧ zigzagSrc q = p ∧ ∀ q' < 256, zigzagSrc q' = p → q' = q) ∧
  (∀ q < 256, (q / 16) % 2 = 0 → zigzagSrc q = q)

/-- R117: socket output has no zero byte. -/
def Obligations.SocketFrameHasNoZeroByte : Prop :=
  ∀ S : Nat → Rgb, ∀ b ∈ (encodeFrame .socket S).toList, 1 ≤ b.toNat ∧ b.toNat ≤ 255

/-- R118: the serial encoding loses nothing: pixel p is the three bytes at wire position src(p). The
socket encoding is recoverable for every channel value except that 0 and 1 both give 1: two snapshots
have the same socket frame exactly when their channels agree up to 0 and 1. -/
def Obligations.SerialFrameLosesNothing : Prop :=
  (∀ (S : Nat → Rgb) (p : Nat), p < 256 →
    (encodeFrame .serial S).toList[3 * zigzagSrc p]? = some (S p).r ∧
    (encodeFrame .serial S).toList[3 * zigzagSrc p + 1]? = some (S p).g ∧
    (encodeFrame .serial S).toList[3 * zigzagSrc p + 2]? = some (S p).b) ∧
  (∀ S S' : Nat → Rgb, encodeFrame .socket S = encodeFrame .socket S' ↔
    ∀ p < 256,
      ((S p).r = (S' p).r ∨ ((S p).r.toNat ≤ 1 ∧ (S' p).r.toNat ≤ 1)) ∧
      ((S p).g = (S' p).g ∨ ((S p).g.toNat ≤ 1 ∧ (S' p).g.toNat ≤ 1)) ∧
      ((S p).b = (S' p).b ∨ ((S p).b.toNat ≤ 1 ∧ (S' p).b.toNat ≤ 1)))

/-! ### Engine, Device and Timer steps -/

/-- R241: what fatal entry writes, and that with FATAL = 1 it changes nothing. -/
def Obligations.FatalEntryWrites : Prop :=
  ∀ (s : State) (cause : Cause) (byte : Byte),
    s.raiseFatal cause byte = if s.fatal = false then fatalEntry s cause byte else s

/-- R184: the Engine's step leaves the state as it is exactly when it has no enabled step. -/
def Obligations.EngineHoldsExactlyWhenNotEnabled : Prop :=
  ∀ s : State, step (s.withEvent (.agent .engine)) = .next s ↔ ¬ EngineEnabled s

/-- R189, R212 and R213. In IDLE a queued byte goes first in the serial variant alone: it is discarded
unless it is `E`, which is fatal. With no such byte the flag is consumed (`consume`, which
ConsumeTakesTheSnapshot gives in full), and with READY = 0 the Engine holds. In the socket variant the
bytes stay queued, whatever the Engine does in IDLE short of a fatal consume, and nothing is emitted. -/
def Obligations.IdleStepPriority : Prop :=
  ∀ s : State, s.phase = .idle → s.fatal = false →
    (∀ b rest, s.variant = .serial → s.rxFifo = b :: rest →
      step (s.withEvent (.agent .engine)) =
        .next (if b = 0x45 then fatalEntry s .deviceError 0x45 else { s with rxFifo := rest })) ∧
    ((s.variant = .socket ∨ s.rxFifo = []) →
      step (s.withEvent (.agent .engine)) = .next (if s.ready = true then consume s else s)) ∧
    (s.variant = .socket → ∃ t, step (s.withEvent (.agent .engine)) = .next t ∧ t.ready = false ∧ t.tx = s.tx ∧
      (t.fatal = false → t.rxFifo = s.rxFifo))

/-- R190: consume, with every pixel set and with some pixel unset, and everything else unchanged. -/
def Obligations.ConsumeTakesTheSnapshot : Prop :=
  ∀ s : State, s.phase = .idle → s.ready = true → s.fatal = false → (s.variant = .socket ∨ s.rxFifo = []) →
    ((∀ p < 256, s.fb.valid p = true) →
      step (s.withEvent (.agent .engine)) = .next { s with
        ready := false, snap := encodeFrame s.variant s.fb.rgb, txcnt := 0,
        phase := if s.variant = .socket then .txG0 else .txG1 }) ∧
    ((∃ p < 256, s.fb.valid p = false) →
      step (s.withEvent (.agent .engine)) = .next { fatalEntry s .unsetPixel 0 with ready := false })

/-- R211: in a WAIT phase the oldest byte is checked; `E` is DEVICE_ERROR and any other byte than the
awaited one BAD_BYTE; with no byte the Engine holds. -/
def Obligations.WaitStepRejectsOtherBytes : Prop :=
  ∀ s : State, s.phase.isWait = true → s.fatal = false →
    (∀ b rest, s.rxFifo = b :: rest → b ≠ s.phase.ackCode →
      step (s.withEvent (.agent .engine)) =
        .next (if b = 0x45 then fatalEntry s .deviceError b else fatalEntry s .badByte b)) ∧
    (s.rxFifo = [] → step (s.withEvent (.agent .engine)) = .next s)

/-- The success action of every WAIT phase (R186, R192, R197, R199, R201, R202): the awaited byte is
popped, and nothing but what the phase's rule names changes. -/
def Obligations.WaitStepAcceptsTheAwaitedByte : Prop :=
  ∀ (s : State) (rest : List Byte),
    (s.phase = .hsWaitS → s.rxFifo = 0x53 :: rest → step (s.withEvent (.agent .engine)) =
      .next { s with rxFifo := rest, phase := if s.variant = .socket then .hsG0 else .hsG1 }) ∧
    (s.phase = .hsWaitA → s.rxFifo = 0x41 :: rest → step (s.withEvent (.agent .engine)) =
      .next { s with rxFifo := rest, conn := true, phase := .idle }) ∧
    (s.phase = .txWaitA → s.rxFifo = 0x41 :: rest → step (s.withEvent (.agent .engine)) =
      .next { s with rxFifo := rest, txcnt := 0, phase := .txFrame }) ∧
    (s.phase = .txWaitD → s.rxFifo = 0x44 :: rest → step (s.withEvent (.agent .engine)) =
      .next { s with rxFifo := rest, phase := .idle }) ∧
    (s.phase = .efWaitA1 → s.rxFifo = 0x41 :: rest → step (s.withEvent (.agent .engine)) =
      .next { s with rxFifo := rest, phase := if s.efHasVal = true then .efVal else .efWaitD }) ∧
    (s.phase = .efWaitA2 → s.rxFifo = 0x41 :: rest → step (s.withEvent (.agent .engine)) =
      .next { s with rxFifo := rest, phase := .efWaitD }) ∧
    (s.phase = .efWaitD → s.rxFifo = 0x44 :: rest → step (s.withEvent (.agent .engine)) =
      .next { s with rxFifo := rest, phase := .idle })

/-- R185 and R191: the handshake's KEEPALIVE and Go tokens and the cycle's Go token, byte by byte. That the
token's meaning is the Engine's step is the model's choice (assumption log entry 7). -/
def Obligations.HandshakeAndGoTokensAreSent : Prop :=
  ∀ s : State,
    (s.phase = .hsK0 → Sends s .tokKeepalive { s with tx := s.tx ++ [0x00], phase := .hsK1 }) ∧
    (s.phase = .hsK1 → Sends s .tokKeepalive { s with tx := s.tx ++ [0x4B], phase := .hsWaitS }) ∧
    (s.phase = .hsG0 → Sends s .tokGoSocket { s with tx := s.tx ++ [0x00], phase := .hsG1 }) ∧
    (s.phase = .hsG1 → Sends s (if s.variant = .socket then .tokGoSocket else .tokGoSerial)
      { s with tx := s.tx ++ [0x47], phase := .hsWaitA }) ∧
    (s.phase = .txG0 → Sends s .tokGoSocket { s with tx := s.tx ++ [0x00], phase := .txG1 }) ∧
    (s.phase = .txG1 → Sends s (if s.variant = .socket then .tokGoSocket else .tokGoSerial)
      { s with tx := s.tx ++ [0x47], phase := .txWaitA })

/-- R196: one byte of the frame in flight is sent, SNAP[TXCNT], and the byte 767 leaves the phase. That a
frame token's meaning is that step, and that one whose payload is not the frame in flight changes
nothing, is the model's choice (assumption log entry 7). -/
def Obligations.FrameTokensAreSent : Prop :=
  ∀ s : State, s.phase = .txFrame →
    Sends s
      (if s.variant = .socket then .tokFrameSocket s.snap.toList else .tokFrameSerial s.snap.toList)
      { s with
        tx := s.tx ++ [s.snap.get s.txcnt], txcnt := if s.txcnt = 767 then 0 else s.txcnt + 1,
        phase := if s.txcnt = 767 then (if s.variant = .socket then .txWaitD else .idle) else .txFrame } ∧
    (∀ payload, payload ≠ s.snap.toList →
      exec (.tokFrameSerial payload) s = .next s ∧ exec (.tokFrameSocket payload) s = .next s)

/-- R198 and R200: the effect's code and its value byte, as an Engine step for every latch, and as the
token for the latches that an accepted EFFECT leaves. That the token's meaning is the Engine's step is
the model's choice (assumption log entry 7). -/
def Obligations.EffectTokensAreSent : Prop :=
  ∀ s : State,
    let val := if s.efHasVal = true then some s.efVal else none
    let coded := { s with tx := s.tx ++ [s.efCode], phase := if s.efCode = 0x5A then .idle else .efWaitA1 }
    let valued := { s with tx := s.tx ++ [s.efVal], phase := .efWaitA2 }
    (s.phase = .efCmd → step (s.withEvent (.agent .engine)) = .next coded ∧
      (s.efCode = 0x42 → exec (.tokBright val) s = .next coded) ∧
      (s.efCode = 0x54 → exec (.tokTest val) s = .next coded) ∧
      (s.efCode = 0x5A → exec .tokBlank s = .next coded)) ∧
    (s.phase = .efVal → step (s.withEvent (.agent .engine)) = .next valued ∧
      (s.efCode = 0x42 → exec (.tokBright val) s = .next valued) ∧
      (s.efCode = 0x54 → exec (.tokTest val) s = .next valued))

/-- R203 and R242: the disconnect request and the fatal sequence. That the token's meaning is the Engine's
step is the model's choice (assumption log entry 7). -/
def Obligations.ClosingTokensAreSent : Prop :=
  ∀ s : State,
    (s.phase = .dcQ0 → Sends s .tokQuit { s with tx := s.tx ++ [0x00], phase := .dcQ1 }) ∧
    (s.phase = .dcQ1 → Sends s .tokQuit { s with tx := s.tx ++ [0x51], phase := .disc }) ∧
    (s.phase = .fltZ → Sends s .tokBlank { s with tx := s.tx ++ [0x5A], phase := .halt }) ∧
    (s.phase = .fltQ0 → Sends s .tokQuit { s with tx := s.tx ++ [0x00], phase := .fltQ1 }) ∧
    (s.phase = .fltQ1 → Sends s .tokQuit { s with tx := s.tx ++ [0x51], phase := .halt })

/-- R91's last column: a host-to-device token changes the state only in a phase that emits it, and
then it is the Engine's step; that it is a hold in every other phase is the model's choice (assumption
log entry 7). -/
def Obligations.TokensAreSentOnlyInTheirPhases : Prop :=
  ∀ (i : Instr) (v : Variant) (s : State), tokenVariant i = some v →
    exec i s = .next s ∨ (s.phase ∈ emittedIn i ∧ exec i s = step (s.withEvent (.agent .engine)))

/-- R91: in a state that meets the invariant and is in a SEND phase, the Engine's step appends to the TX
stream a byte of a well-formed host-to-device token of the selected variant, one that R91 emits in that
phase. That the token's meaning is that step is the model's choice (assumption log entry 7). -/
def Obligations.EverySendIsOfAToken : Prop :=
  ∀ s : State, Inv s → s.phase.isSend = true →
    ∃ (i : Instr) (bytes : List Byte) (b : Byte) (t : State),
      tokenVariant i = some s.variant ∧ i.wf = true ∧ s.phase ∈ emittedIn i ∧
      encode i = .token s.variant bytes ∧ b ∈ bytes ∧
      step (s.withEvent (.agent .engine)) = .next t ∧ exec i s = .next t ∧ t.tx = s.tx ++ [b]

/-- R210: a delivered byte, whichever it is, in every state: discarded, an overflow, or queued. With
FATAL = 1 fatal entry changes nothing (R245); no state that a run reaches has FATAL = 1 in a phase that
keeps received bytes. -/
def Obligations.DeliveryQueuesOrOverflows : Prop :=
  ∀ (b : Byte) (s : State),
    step (s.withEvent (.agent (.device b))) = .next (
      if s.phase = .disc ∨ s.phase = .dcQ0 ∨ s.phase = .dcQ1 ∨ s.phase = .fltZ ∨ s.phase = .fltQ0 ∨ s.phase = .fltQ1 ∨
          s.phase = .halt then s
      else if s.rxFifoDepth ≤ s.rxFifo.length then (if s.fatal = false then fatalEntry s .rxOverflow 0 else s)
      else { s with rxFifo := s.rxFifo ++ [b] })

/-- R92 and R210: the device-to-host tokens are deliveries of 0x53, 0x41, 0x45 and 0x44; where the FIFO
is open and has room, each completes with its byte queued and nothing else changed. -/
def Obligations.DeviceTokensAreDelivered : Prop :=
  ∀ s : State, s.phase.rxOpen = true → s.rxFifo.length < s.rxFifoDepth →
    exec .tokS s = .next { s with rxFifo := s.rxFifo ++ [0x53] } ∧
    exec .tokA s = .next { s with rxFifo := s.rxFifo ++ [0x41] } ∧
    exec .tokE s = .next { s with rxFifo := s.rxFifo ++ [0x45] } ∧
    exec .tokD s = .next { s with rxFifo := s.rxFifo ++ [0x44] }

/-- R214: the Timer's step in every state, and that it has none but where R214 says. With FATAL = 1 fatal
entry changes nothing (R245). -/
def Obligations.TimeoutOnlyInQualifyingStates : Prop :=
  ∀ s : State,
    step (s.withEvent (.agent .timer)) = .next (
      if s.phase.isWait = true ∧ s.phase ≠ .efWaitD ∧ s.rxFifo = [] ∧ s.fatal = false then fatalEntry s .timeout 0 else s)

/-- R243 and R272: in HALT and in DISC neither Engine, Device nor Timer changes anything. -/
def Obligations.RestPhasesHold : Prop :=
  ∀ (s : State) (b : Byte), s.phase = .halt ∨ s.phase = .disc →
    step (s.withEvent (.agent .engine)) = .next s ∧
    step (s.withEvent (.agent (.device b))) = .next s ∧
    step (s.withEvent (.agent .timer)) = .next s

/-! ### What every step keeps, and what it can change -/

/-- The reset state meets the invariant. -/
def Obligations.InvariantHoldsAtReset : Prop := Inv State.reset

/-- Every step keeps the invariant: from every state that meets it, whatever the next entry is. -/
def Obligations.EveryStepKeepsTheInvariant : Prop :=
  ∀ s t : State, Inv s → step s = .next t → Inv t

/-- R34 and R246: FATAL and the recorded fault stay until reset, and HALT is left only by it. -/
def Obligations.FatalIsStickyUntilReset : Prop :=
  ∀ s t : State, step s = .next t → s.nextEvent ≠ .agent .rst →
    (s.fatal = true → t.fatal = true ∧ t.cause = s.cause ∧ t.faultByte = s.faultByte ∧ t.faultPhase = s.faultPhase) ∧
    (s.phase = .halt → t.phase = .halt)

/-- R240: which step raises which cause, and what it records. -/
def Obligations.FaultCausesAreRecorded : Prop :=
  ∀ s t : State, step s = .next t → s.fatal = false → t.fatal = true →
    t.faultPhase = s.phase ∧
    match t.cause with
    | .none => False
    | .badByte => s.nextEvent = .agent .engine ∧ s.phase.isWait = true ∧
        ∃ b rest, s.rxFifo = b :: rest ∧ b ≠ s.phase.ackCode ∧ b ≠ 0x45 ∧ t.faultByte = b
    | .deviceError => s.nextEvent = .agent .engine ∧ (s.phase.isWait = true ∨ (s.phase = .idle ∧ s.variant = .serial)) ∧
        (∃ rest, s.rxFifo = 0x45 :: rest) ∧ t.faultByte = 0x45
    | .timeout => s.nextEvent = .agent .timer ∧ s.phase.isWait = true ∧ s.phase ≠ .efWaitD ∧ s.rxFifo = [] ∧ t.faultByte = 0
    | .unsetPixel => s.nextEvent = .agent .engine ∧ s.phase = .idle ∧ s.ready = true ∧
        (∃ p < 256, s.fb.valid p = false) ∧ t.faultByte = 0
    | .rxOverflow => (∃ b, s.nextEvent = .agent (.device b)) ∧ s.phase.rxOpen = true ∧
        s.rxFifoDepth ≤ s.rxFifo.length ∧ t.faultByte = 0

/-- R187: no step but reset changes PHASE except along a row of the table, on that row's event. -/
def Obligations.PhaseChangesFollowTheTable : Prop :=
  ∀ s t : State, step s = .next t → t.phase ≠ s.phase → s.nextEvent ≠ .agent .rst →
    ∃ d, driverOf s.nextEvent = some d ∧ Transition s.variant s.phase d t.phase

/-- R4: the TX stream only grows, by at most one byte a step; a step that emits is an Engine step in a
SEND phase and consumes no received byte. -/
def Obligations.StepEmitsAtMostOneByte : Prop :=
  ∀ s t : State, step s = .next t →
    t.tx = s.tx ∨ ((∃ b, t.tx = s.tx ++ [b]) ∧ t.rxFifo = s.rxFifo ∧ s.phase.isSend = true ∧ isEngineEntry s.nextEvent = true)

/-- R24 and R29: the Frame Buffer is written by WRPX alone, and SNAP by the consume step alone, reset
apart. -/
def Obligations.BuffersHaveOneWriter : Prop :=
  ∀ s t : State, step s = .next t → s.nextEvent ≠ .agent .rst →
    (t.fb ≠ s.fb → ∃ p r g b, decode s.nextEvent = .ok (.wrpx p r g b)) ∧
    (t.snap ≠ s.snap → s.nextEvent = .agent .engine ∧ s.phase = .idle ∧ s.ready = true)

/-- R156, and R25 on the flag's writers: READY rises only by SET_READY and falls only by CLEAR_READY, by
a consume step or by reset; a step that starts a cycle finds READY = 1 and leaves it 0. -/
def Obligations.FlagIsConsumedAtMostOnce : Prop :=
  ∀ s t : State, step s = .next t →
    (s.ready = false → t.ready = true → decode s.nextEvent = .ok .setReady) ∧
    (s.ready = true → t.ready = false → decode s.nextEvent = .ok .clearReady ∨ s.nextEvent = .agent .rst ∨
      (s.nextEvent = .agent .engine ∧ s.phase = .idle)) ∧
    (s.phase = .idle → t.phase = .txG0 ∨ t.phase = .txG1 → s.ready = true ∧ t.ready = false) ∧
    (s.nextEvent = .agent .rst → t.ready = false)

/-- R27: VARIANT is written only by WRCONFIG in DISC, reset apart. -/
def Obligations.VariantChangesOnlyInDisc : Prop :=
  ∀ s t : State, step s = .next t → t.variant ≠ s.variant →
    s.nextEvent = .agent .rst ∨ (s.phase = .disc ∧ ∃ v, decode s.nextEvent = .ok (.wrconfig v))

/-- R216: a change out of an Awaiting-Ack state is caused by a received byte or by a timeout, reset
apart. -/
def Obligations.AwaitingAckIsLeftByByteOrTimeout : Prop :=
  ∀ s t : State, step s = .next t → s.phase.lstate = 2 → t.phase.lstate ≠ 2 →
    (s.nextEvent = .agent .engine ∧ s.rxFifo ≠ []) ∨ (∃ b, s.nextEvent = .agent (.device b)) ∨
    (s.nextEvent = .agent .timer ∧ s.rxFifo = []) ∨ s.nextEvent = .agent .rst

/-! ### Whole exchanges -/

/-- R181: the handshake as a whole, in the order of events in which the Device answers. -/
def Obligations.HandshakeEndsConnected : Prop :=
  ∀ (s : State) (rest : List Event), s.phase = .disc → s.fatal = false → 1 ≤ s.rxFifoDepth →
    (s.variant = .serial →
      s.agenda = [encode .connect, encode .tokS, .agent .engine, .agent .engine, encode .tokA, .agent .engine] ++ rest →
      stepsFrom 6 s = some { s with
        agenda := rest, rxFifo := [], phase := .idle, conn := true, cmdErr := .ok, tx := s.tx ++ [0x47],
        busResp := some { err := false, rdata := 0 } }) ∧
    (s.variant = .socket →
      s.agenda = [encode .connect, .agent .engine, .agent .engine, encode .tokS, .agent .engine, .agent .engine,
        .agent .engine, encode .tokA, .agent .engine] ++ rest →
      stepsFrom 9 s = some { s with
        agenda := rest, rxFifo := [], phase := .idle, conn := true, cmdErr := .ok,
        tx := s.tx ++ [0x00, 0x4B, 0x00, 0x47], busResp := some { err := false, rdata := 0 } })

/-- R196: TX_FRAME takes exactly 768 Engine steps and emits SNAP[0..767] in order; after n < 768 of them
the first n bytes are out and TXCNT = n. -/
def Obligations.FrameTakesExactly768Steps : Prop :=
  ∀ (s : State) (n : Nat) (rest : List Event),
    n ≤ 768 → s.phase = .txFrame → s.txcnt = 0 → s.agenda = List.replicate n (.agent .engine) ++ rest →
    ∃ (k : Fin 768) (p : Phase),
      stepsFrom n s = some { s with agenda := rest, tx := s.tx ++ s.snap.toList.take n, txcnt := k, phase := p } ∧
      (n < 768 → p = .txFrame ∧ k.val = n) ∧
      (n = 768 → p = (if s.variant = .socket then .txWaitD else .idle) ∧ k = 0)

/-- R205: one consume gives exactly one cycle. From IDLE with READY = 1 and every pixel set, with the
Device answering, the TX stream gains exactly the Go token and the 768 bytes of the encoded frame, and
the Engine is back in IDLE with READY = 0. -/
def Obligations.OneConsumeGivesOneCycle : Prop :=
  ∀ (s : State) (rest : List Event), s.phase = .idle → s.ready = true → s.rxFifo = [] → 1 ≤ s.rxFifoDepth →
    (∀ p < 256, s.fb.valid p = true) →
    (s.variant = .serial →
      s.agenda = [.agent .engine, .agent .engine, encode .tokA, .agent .engine] ++
        List.replicate 768 (.agent .engine) ++ rest →
      stepsFrom 772 s = some { s with
        agenda := rest, ready := false, snap := encodeFrame .serial s.fb.rgb, txcnt := 0,
        tx := s.tx ++ [0x47] ++ (encodeFrame .serial s.fb.rgb).toList }) ∧
    (s.variant = .socket →
      s.agenda = [.agent .engine, .agent .engine, .agent .engine, encode .tokA, .agent .engine] ++
        List.replicate 768 (.agent .engine) ++ [encode .tokD, .agent .engine] ++ rest →
      stepsFrom 775 s = some { s with
        agenda := rest, ready := false, snap := encodeFrame .socket s.fb.rgb, txcnt := 0,
        tx := s.tx ++ [0x00, 0x47] ++ (encodeFrame .socket s.fb.rgb).toList })

/-- R157, eventual consumption: in a run that is weakly fair (R4) to the Engine and to the Timer and starts
with READY = 1, the flag is consumed by an Engine step in IDLE, unless before that it is cleared by
CLEAR_READY or reset, FATAL is set, or the link is not connected. Two premises say what R157's sentence
needs beside fairness: a wait for an effect's `D`, which has no timeout, ends by a byte (R157: "once every
in-flight wait ends"), and from some point on no EFFECT is accepted and, in the serial variant, no
byte is delivered in IDLE, since each of them goes before the pending frame (R183, R189). That premise is
read from the rules (assumption log entry 17). -/
def Obligations.FlagIsEventuallyConsumed : Prop :=
  ∀ (entry : Nat → AgentStep) (state : Nat → State),
    IsRun entry state → WeaklyFairTo .engine entry state → WeaklyFairTo .timer entry state →
    Inv (state 0) → (state 0).ready = true →
    (∀ n, (state n).phase = .efWaitD → ∃ m, n ≤ m ∧ ((state m).phase ≠ .efWaitD ∨ (state m).rxFifo ≠ [])) →
    (∃ N, ∀ n, N ≤ n → (state n).phase = .idle →
      (state (n + 1)).phase ≠ .efCmd ∧ ((state n).variant = .serial → agentOf (entry n) ≠ some .device)) →
    ∃ n, (∀ m, m ≤ n → (state m).ready = true) ∧
      ((entry n = .engine ∧ (state n).phase = .idle ∧ (state (n + 1)).ready = false) ∨
       (∃ w, entry n = .producer w ∧ decodeBus w = .clearReady) ∨ entry n = .rst ∨
       (state n).fatal = true ∨ (state n).conn = false)
end

