-- ==== Sys2Proof/Laws/Decode.lean ====
section
/-! SUPPORT. The bits of every assembled word (transaction, pixel address, command word), and the
fields read back from it. -/

namespace Sys2Proof

/-- A field of a word, from the word's bits. -/
theorem extractLsb'_eq_of_bits {n m k : Nat} (x : BitVec n) (y : BitVec m)
    (h : ∀ i < m, x.getLsbD (k + i) = y.getLsbD i) : x.extractLsb' k m = y := by
  apply BitVec.eq_of_getLsbD_eq
  intro i hi
  rw [BitVec.getLsbD_extractLsb', h i hi]
  simp [hi]

/-- The low field of two words laid side by side. -/
theorem extractLsb'_append_low {n m : Nat} (x : BitVec n) (y : BitVec m) : (x ++ y).extractLsb' 0 m = y := by
  refine extractLsb'_eq_of_bits _ _ fun i hi => ?_
  rw [BitVec.getLsbD_append, if_pos (by omega)]
  congr 1
  omega

/-- A field above the low word is a field of the high word. -/
theorem extractLsb'_append_high {n m : Nat} (x : BitVec n) (y : BitVec m) (k l : Nat) :
    (x ++ y).extractLsb' (m + k) l = x.extractLsb' k l := by
  apply BitVec.eq_of_getLsbD_eq
  intro i hi
  rw [BitVec.getLsbD_extractLsb', BitVec.getLsbD_extractLsb', BitVec.getLsbD_append, if_neg (by omega)]
  congr 2
  omega

/-- A flag as the lowest bit of a word. -/
theorem getLsbD_append_flag {n : Nat} (x : BitVec n) (b : Bool) : (x ++ BitVec.ofBool b).getLsbD 0 = b := by
  rw [BitVec.getLsbD_append]
  simp

/-- A bit above the low word is a bit of the high word. -/
theorem getLsbD_append_high {n m : Nat} (x : BitVec n) (y : BitVec m) (k : Nat) :
    (x ++ y).getLsbD (m + k) = x.getLsbD k := by
  rw [BitVec.getLsbD_append, if_neg (by omega)]
  congr 1
  omega

/-- The bits of a transaction word (R80). -/
theorem getLsbD_busWord (w : Bool) (a : Addr) (d : Data) (i : Nat) :
    (busWord w a d).getLsbD i =
      if i < 32 then d.getLsbD i else if i < 44 then a.getLsbD (i - 32) else (decide (i = 44) && w) := by
  change ((BitVec.ofBool w ++ a : BitVec (1 + 12)) ++ d : BitVec (1 + 12 + 32)).getLsbD i = _
  rw [BitVec.getLsbD_append]
  split
  · rfl
  · rw [BitVec.getLsbD_append]
    split
    · rw [if_pos (by omega)]
    · rw [if_neg (by omega), BitVec.getLsbD_ofBool]
      congr 1
      simp
      omega

/-- The bits of a command word (R82). -/
theorem getLsbD_cmdData (op a0 a1 a2 : Byte) (i : Nat) :
    (cmdData op a0 a1 a2).getLsbD i =
      if i < 8 then a2.getLsbD i else if i < 16 then a1.getLsbD (i - 8) else
        if i < 24 then a0.getLsbD (i - 16) else op.getLsbD (i - 24) := by
  change (((op ++ a0 : BitVec (8 + 8)) ++ a1 : BitVec (8 + 8 + 8)) ++ a2 : BitVec (8 + 8 + 8 + 8)).getLsbD i = _
  rw [BitVec.getLsbD_append]
  split
  · rfl
  · rw [BitVec.getLsbD_append]
    split
    · rw [if_pos (by omega)]
    · rw [if_neg (by omega), BitVec.getLsbD_append]
      split
      · rw [if_pos (by omega)]; congr 1
      · rw [if_neg (by omega)]; congr 1

/-- The bits of a pixel's address (R64). -/
theorem getLsbD_pixelAddr (p : Byte) (i : Nat) :
    (pixelAddr p).getLsbD i = if i < 2 then false else p.getLsbD (i - 2) := by
  change (((0 : BitVec 2) ++ p : BitVec (2 + 8)) ++ (0 : BitVec 2) : BitVec (2 + 8 + 2)).getLsbD i = _
  rw [BitVec.getLsbD_append]
  split
  · simp
  · rw [BitVec.getLsbD_append]
    split
    · rfl
    · rw [BitVec.getLsbD_of_ge p _ (by omega)]; simp

/-! ### Fields read back -/

@[simp] theorem busW_busWord (w : Bool) (a : Addr) (d : Data) : busW (busWord w a d) = w := by
  unfold busW
  rw [getLsbD_busWord, if_neg (by omega), if_neg (by omega)]
  rfl

@[simp] theorem busAddr_busWord (w : Bool) (a : Addr) (d : Data) : busAddr (busWord w a d) = a := by
  refine extractLsb'_eq_of_bits _ _ fun i hi => ?_
  rw [getLsbD_busWord, if_neg (by omega), if_pos (by omega)]
  congr 1
  omega

@[simp] theorem busData_busWord (w : Bool) (a : Addr) (d : Data) : busData (busWord w a d) = d := by
  refine extractLsb'_eq_of_bits _ _ fun i hi => ?_
  rw [getLsbD_busWord, if_pos (by omega)]
  congr 1
  omega

@[simp] theorem pixelAddr_low (p : Byte) : (pixelAddr p).extractLsb' 0 2 = 0 := by
  refine extractLsb'_eq_of_bits _ _ fun i hi => ?_
  rw [getLsbD_pixelAddr, if_pos (by omega)]
  simp

@[simp] theorem pixelAddr_high (p : Byte) : (pixelAddr p).extractLsb' 10 2 = 0 := by
  refine extractLsb'_eq_of_bits _ _ fun i hi => ?_
  rw [getLsbD_pixelAddr, if_neg (by omega), BitVec.getLsbD_of_ge p _ (by omega)]
  simp

@[simp] theorem pixelAddr_index (p : Byte) : (pixelAddr p).extractLsb' 2 8 = p := by
  refine extractLsb'_eq_of_bits _ _ fun i hi => ?_
  rw [getLsbD_pixelAddr, if_neg (by omega)]
  congr 1
  omega

@[simp] theorem cmdData_op (op a0 a1 a2 : Byte) : (cmdData op a0 a1 a2).extractLsb' 24 8 = op := by
  refine extractLsb'_eq_of_bits _ _ fun i hi => ?_
  rw [getLsbD_cmdData, if_neg (by omega), if_neg (by omega), if_neg (by omega)]
  congr 1
  omega

@[simp] theorem cmdData_arg0 (op a0 a1 a2 : Byte) : (cmdData op a0 a1 a2).extractLsb' 16 8 = a0 := by
  refine extractLsb'_eq_of_bits _ _ fun i hi => ?_
  rw [getLsbD_cmdData, if_neg (by omega), if_neg (by omega), if_pos (by omega)]
  congr 1
  omega

@[simp] theorem cmdData_arg1 (op a0 a1 a2 : Byte) : (cmdData op a0 a1 a2).extractLsb' 8 8 = a1 := by
  refine extractLsb'_eq_of_bits _ _ fun i hi => ?_
  rw [getLsbD_cmdData, if_neg (by omega), if_pos (by omega)]
  congr 1
  omega

@[simp] theorem cmdData_arg2 (op a0 a1 a2 : Byte) : (cmdData op a0 a1 a2).extractLsb' 0 8 = a2 := by
  refine extractLsb'_eq_of_bits _ _ fun i hi => ?_
  rw [getLsbD_cmdData, if_pos (by omega)]
  congr 1
  omega

/-- A pixel word on a write is a command word's four bytes with 0 on top (R81, R82). -/
theorem pixelData_eq_cmdData (r g b : Byte) : pixelData r g b = cmdData 0 r g b := rfl

/-- A producer transaction decodes by its parts (R87). -/
@[simp] theorem decode_busEvent (w : Bool) (a : Addr) (d : Data) :
    decode (busEvent w a d) = .ok (decodeTransaction w a d) := by
  simp [decode, busEvent, decodeBus]

end Sys2Proof
end

