-- ==== Sys2Proof/Laws/Encoder.lean ====
section
/-! SUPPORT. Where every byte of an encoded frame comes from, and the source index of a wire pixel. -/

namespace Sys2Proof.Machine

/-- Byte k of item q in a sequence of three-byte items. -/
theorem getElem?_flatMap_three (f : Nat → List Byte) (h : ∀ q, (f q).length = 3) (l : List Nat) (j k : Nat) (hk : k < 3) :
    (l.flatMap f)[3 * j + k]? = (l[j]?).bind fun q => (f q)[k]? := by
  induction l generalizing j with
  | nil => simp
  | cons q l ih =>
    rw [List.flatMap_cons]
    cases j with
    | zero => rw [List.getElem?_append_left (by rw [h]; omega)]; simp
    | succ j =>
      rw [List.getElem?_append_right (by rw [h]; omega), h, show 3 * (j + 1) + k - 3 = 3 * j + k by omega, ih]
      simp

/-- Byte k of wire pixel q of a frame (R112, R115). -/
theorem encodeFrame_getElem? (v : Variant) (S : Nat → Rgb) {q k : Nat} (hq : q < 256) (hk : k < 3) :
    (encodeFrame v S).toList[3 * q + k]? = (pixelBytes v (S (zigzagSrc q)))[k]? := by
  have : (encodeFrame v S).toList = encodeBytes v S := rfl
  rw [this, encodeBytes, getElem?_flatMap_three _ (fun _ => pixelBytes_length _ _) _ _ _ hk,
    List.getElem?_range hq]
  rfl

/-- A byte of a frame is a byte of some wire pixel. -/
theorem mem_encodeFrame {v : Variant} {S : Nat → Rgb} {b : Byte} :
    b ∈ (encodeFrame v S).toList ↔ ∃ q < 256, b ∈ pixelBytes v (S (zigzagSrc q)) := by
  have : (encodeFrame v S).toList = encodeBytes v S := rfl
  rw [this, encodeBytes, List.mem_flatMap]
  simp only [List.mem_range, zigzag]

/-- The substituted byte is never 0x00 (R114). -/
theorem substZero_ne_zero (v : Byte) : substZero v ≠ 0 := by
  unfold substZero
  split
  · decide
  · assumption

end Sys2Proof.Machine
end

