-- ==== Sys2Proof/Laws/State.lean ====
section
/-! SUPPORT. What every state update does to every field: one lemma per field per update. -/

namespace Sys2Proof.Machine

variable (s : State)

/-! ### setFb -/

@[simp] theorem State.setFb_fb (m : Memory) : (s.setFb m).fb = m := rfl
@[simp] theorem State.setFb_ready (m : Memory) : (s.setFb m).ready = s.ready := rfl
@[simp] theorem State.setFb_snap (m : Memory) : (s.setFb m).snap = s.snap := rfl
@[simp] theorem State.setFb_variant (m : Memory) : (s.setFb m).variant = s.variant := rfl
@[simp] theorem State.setFb_phase (m : Memory) : (s.setFb m).phase = s.phase := rfl
@[simp] theorem State.setFb_conn (m : Memory) : (s.setFb m).conn = s.conn := rfl
@[simp] theorem State.setFb_fatal (m : Memory) : (s.setFb m).fatal = s.fatal := rfl
@[simp] theorem State.setFb_cause (m : Memory) : (s.setFb m).cause = s.cause := rfl
@[simp] theorem State.setFb_faultByte (m : Memory) : (s.setFb m).faultByte = s.faultByte := rfl
@[simp] theorem State.setFb_faultPhase (m : Memory) : (s.setFb m).faultPhase = s.faultPhase := rfl
@[simp] theorem State.setFb_cmdErr (m : Memory) : (s.setFb m).cmdErr = s.cmdErr := rfl
@[simp] theorem State.setFb_txcnt (m : Memory) : (s.setFb m).txcnt = s.txcnt := rfl
@[simp] theorem State.setFb_rxFifo (m : Memory) : (s.setFb m).rxFifo = s.rxFifo := rfl
@[simp] theorem State.setFb_efCode (m : Memory) : (s.setFb m).efCode = s.efCode := rfl
@[simp] theorem State.setFb_efHasVal (m : Memory) : (s.setFb m).efHasVal = s.efHasVal := rfl
@[simp] theorem State.setFb_efVal (m : Memory) : (s.setFb m).efVal = s.efVal := rfl
@[simp] theorem State.setFb_tx (m : Memory) : (s.setFb m).tx = s.tx := rfl
@[simp] theorem State.setFb_busResp (m : Memory) : (s.setFb m).busResp = s.busResp := rfl
@[simp] theorem State.setFb_rxFifoDepth (m : Memory) : (s.setFb m).rxFifoDepth = s.rxFifoDepth := rfl
@[simp] theorem State.setFb_busySetPolicy (m : Memory) : (s.setFb m).busySetPolicy = s.busySetPolicy := rfl
@[simp] theorem State.setFb_agenda (m : Memory) : (s.setFb m).agenda = s.agenda := rfl
@[simp] theorem State.setFb_draws (m : Memory) : (s.setFb m).draws = s.draws := rfl

/-! ### setReady -/

@[simp] theorem State.setReady_fb (b : Bool) : (s.setReady b).fb = s.fb := rfl
@[simp] theorem State.setReady_ready (b : Bool) : (s.setReady b).ready = b := rfl
@[simp] theorem State.setReady_snap (b : Bool) : (s.setReady b).snap = s.snap := rfl
@[simp] theorem State.setReady_variant (b : Bool) : (s.setReady b).variant = s.variant := rfl
@[simp] theorem State.setReady_phase (b : Bool) : (s.setReady b).phase = s.phase := rfl
@[simp] theorem State.setReady_conn (b : Bool) : (s.setReady b).conn = s.conn := rfl
@[simp] theorem State.setReady_fatal (b : Bool) : (s.setReady b).fatal = s.fatal := rfl
@[simp] theorem State.setReady_cause (b : Bool) : (s.setReady b).cause = s.cause := rfl
@[simp] theorem State.setReady_faultByte (b : Bool) : (s.setReady b).faultByte = s.faultByte := rfl
@[simp] theorem State.setReady_faultPhase (b : Bool) : (s.setReady b).faultPhase = s.faultPhase := rfl
@[simp] theorem State.setReady_cmdErr (b : Bool) : (s.setReady b).cmdErr = s.cmdErr := rfl
@[simp] theorem State.setReady_txcnt (b : Bool) : (s.setReady b).txcnt = s.txcnt := rfl
@[simp] theorem State.setReady_rxFifo (b : Bool) : (s.setReady b).rxFifo = s.rxFifo := rfl
@[simp] theorem State.setReady_efCode (b : Bool) : (s.setReady b).efCode = s.efCode := rfl
@[simp] theorem State.setReady_efHasVal (b : Bool) : (s.setReady b).efHasVal = s.efHasVal := rfl
@[simp] theorem State.setReady_efVal (b : Bool) : (s.setReady b).efVal = s.efVal := rfl
@[simp] theorem State.setReady_tx (b : Bool) : (s.setReady b).tx = s.tx := rfl
@[simp] theorem State.setReady_busResp (b : Bool) : (s.setReady b).busResp = s.busResp := rfl
@[simp] theorem State.setReady_rxFifoDepth (b : Bool) : (s.setReady b).rxFifoDepth = s.rxFifoDepth := rfl
@[simp] theorem State.setReady_busySetPolicy (b : Bool) : (s.setReady b).busySetPolicy = s.busySetPolicy := rfl
@[simp] theorem State.setReady_agenda (b : Bool) : (s.setReady b).agenda = s.agenda := rfl
@[simp] theorem State.setReady_draws (b : Bool) : (s.setReady b).draws = s.draws := rfl

/-! ### setSnap -/

@[simp] theorem State.setSnap_fb (v : Vector Byte 768) : (s.setSnap v).fb = s.fb := rfl
@[simp] theorem State.setSnap_ready (v : Vector Byte 768) : (s.setSnap v).ready = s.ready := rfl
@[simp] theorem State.setSnap_snap (v : Vector Byte 768) : (s.setSnap v).snap = v := rfl
@[simp] theorem State.setSnap_variant (v : Vector Byte 768) : (s.setSnap v).variant = s.variant := rfl
@[simp] theorem State.setSnap_phase (v : Vector Byte 768) : (s.setSnap v).phase = s.phase := rfl
@[simp] theorem State.setSnap_conn (v : Vector Byte 768) : (s.setSnap v).conn = s.conn := rfl
@[simp] theorem State.setSnap_fatal (v : Vector Byte 768) : (s.setSnap v).fatal = s.fatal := rfl
@[simp] theorem State.setSnap_cause (v : Vector Byte 768) : (s.setSnap v).cause = s.cause := rfl
@[simp] theorem State.setSnap_faultByte (v : Vector Byte 768) : (s.setSnap v).faultByte = s.faultByte := rfl
@[simp] theorem State.setSnap_faultPhase (v : Vector Byte 768) : (s.setSnap v).faultPhase = s.faultPhase := rfl
@[simp] theorem State.setSnap_cmdErr (v : Vector Byte 768) : (s.setSnap v).cmdErr = s.cmdErr := rfl
@[simp] theorem State.setSnap_txcnt (v : Vector Byte 768) : (s.setSnap v).txcnt = s.txcnt := rfl
@[simp] theorem State.setSnap_rxFifo (v : Vector Byte 768) : (s.setSnap v).rxFifo = s.rxFifo := rfl
@[simp] theorem State.setSnap_efCode (v : Vector Byte 768) : (s.setSnap v).efCode = s.efCode := rfl
@[simp] theorem State.setSnap_efHasVal (v : Vector Byte 768) : (s.setSnap v).efHasVal = s.efHasVal := rfl
@[simp] theorem State.setSnap_efVal (v : Vector Byte 768) : (s.setSnap v).efVal = s.efVal := rfl
@[simp] theorem State.setSnap_tx (v : Vector Byte 768) : (s.setSnap v).tx = s.tx := rfl
@[simp] theorem State.setSnap_busResp (v : Vector Byte 768) : (s.setSnap v).busResp = s.busResp := rfl
@[simp] theorem State.setSnap_rxFifoDepth (v : Vector Byte 768) : (s.setSnap v).rxFifoDepth = s.rxFifoDepth := rfl
@[simp] theorem State.setSnap_busySetPolicy (v : Vector Byte 768) : (s.setSnap v).busySetPolicy = s.busySetPolicy := rfl
@[simp] theorem State.setSnap_agenda (v : Vector Byte 768) : (s.setSnap v).agenda = s.agenda := rfl
@[simp] theorem State.setSnap_draws (v : Vector Byte 768) : (s.setSnap v).draws = s.draws := rfl

/-! ### setVariant -/

@[simp] theorem State.setVariant_fb (v : Variant) : (s.setVariant v).fb = s.fb := rfl
@[simp] theorem State.setVariant_ready (v : Variant) : (s.setVariant v).ready = s.ready := rfl
@[simp] theorem State.setVariant_snap (v : Variant) : (s.setVariant v).snap = s.snap := rfl
@[simp] theorem State.setVariant_variant (v : Variant) : (s.setVariant v).variant = v := rfl
@[simp] theorem State.setVariant_phase (v : Variant) : (s.setVariant v).phase = s.phase := rfl
@[simp] theorem State.setVariant_conn (v : Variant) : (s.setVariant v).conn = s.conn := rfl
@[simp] theorem State.setVariant_fatal (v : Variant) : (s.setVariant v).fatal = s.fatal := rfl
@[simp] theorem State.setVariant_cause (v : Variant) : (s.setVariant v).cause = s.cause := rfl
@[simp] theorem State.setVariant_faultByte (v : Variant) : (s.setVariant v).faultByte = s.faultByte := rfl
@[simp] theorem State.setVariant_faultPhase (v : Variant) : (s.setVariant v).faultPhase = s.faultPhase := rfl
@[simp] theorem State.setVariant_cmdErr (v : Variant) : (s.setVariant v).cmdErr = s.cmdErr := rfl
@[simp] theorem State.setVariant_txcnt (v : Variant) : (s.setVariant v).txcnt = s.txcnt := rfl
@[simp] theorem State.setVariant_rxFifo (v : Variant) : (s.setVariant v).rxFifo = s.rxFifo := rfl
@[simp] theorem State.setVariant_efCode (v : Variant) : (s.setVariant v).efCode = s.efCode := rfl
@[simp] theorem State.setVariant_efHasVal (v : Variant) : (s.setVariant v).efHasVal = s.efHasVal := rfl
@[simp] theorem State.setVariant_efVal (v : Variant) : (s.setVariant v).efVal = s.efVal := rfl
@[simp] theorem State.setVariant_tx (v : Variant) : (s.setVariant v).tx = s.tx := rfl
@[simp] theorem State.setVariant_busResp (v : Variant) : (s.setVariant v).busResp = s.busResp := rfl
@[simp] theorem State.setVariant_rxFifoDepth (v : Variant) : (s.setVariant v).rxFifoDepth = s.rxFifoDepth := rfl
@[simp] theorem State.setVariant_busySetPolicy (v : Variant) : (s.setVariant v).busySetPolicy = s.busySetPolicy := rfl
@[simp] theorem State.setVariant_agenda (v : Variant) : (s.setVariant v).agenda = s.agenda := rfl
@[simp] theorem State.setVariant_draws (v : Variant) : (s.setVariant v).draws = s.draws := rfl

/-! ### setPhase -/

@[simp] theorem State.setPhase_fb (p : Phase) : (s.setPhase p).fb = s.fb := rfl
@[simp] theorem State.setPhase_ready (p : Phase) : (s.setPhase p).ready = s.ready := rfl
@[simp] theorem State.setPhase_snap (p : Phase) : (s.setPhase p).snap = s.snap := rfl
@[simp] theorem State.setPhase_variant (p : Phase) : (s.setPhase p).variant = s.variant := rfl
@[simp] theorem State.setPhase_phase (p : Phase) : (s.setPhase p).phase = p := rfl
@[simp] theorem State.setPhase_conn (p : Phase) : (s.setPhase p).conn = s.conn := rfl
@[simp] theorem State.setPhase_fatal (p : Phase) : (s.setPhase p).fatal = s.fatal := rfl
@[simp] theorem State.setPhase_cause (p : Phase) : (s.setPhase p).cause = s.cause := rfl
@[simp] theorem State.setPhase_faultByte (p : Phase) : (s.setPhase p).faultByte = s.faultByte := rfl
@[simp] theorem State.setPhase_faultPhase (p : Phase) : (s.setPhase p).faultPhase = s.faultPhase := rfl
@[simp] theorem State.setPhase_cmdErr (p : Phase) : (s.setPhase p).cmdErr = s.cmdErr := rfl
@[simp] theorem State.setPhase_txcnt (p : Phase) : (s.setPhase p).txcnt = s.txcnt := rfl
@[simp] theorem State.setPhase_rxFifo (p : Phase) : (s.setPhase p).rxFifo = s.rxFifo := rfl
@[simp] theorem State.setPhase_efCode (p : Phase) : (s.setPhase p).efCode = s.efCode := rfl
@[simp] theorem State.setPhase_efHasVal (p : Phase) : (s.setPhase p).efHasVal = s.efHasVal := rfl
@[simp] theorem State.setPhase_efVal (p : Phase) : (s.setPhase p).efVal = s.efVal := rfl
@[simp] theorem State.setPhase_tx (p : Phase) : (s.setPhase p).tx = s.tx := rfl
@[simp] theorem State.setPhase_busResp (p : Phase) : (s.setPhase p).busResp = s.busResp := rfl
@[simp] theorem State.setPhase_rxFifoDepth (p : Phase) : (s.setPhase p).rxFifoDepth = s.rxFifoDepth := rfl
@[simp] theorem State.setPhase_busySetPolicy (p : Phase) : (s.setPhase p).busySetPolicy = s.busySetPolicy := rfl
@[simp] theorem State.setPhase_agenda (p : Phase) : (s.setPhase p).agenda = s.agenda := rfl
@[simp] theorem State.setPhase_draws (p : Phase) : (s.setPhase p).draws = s.draws := rfl

/-! ### setConn -/

@[simp] theorem State.setConn_fb (b : Bool) : (s.setConn b).fb = s.fb := rfl
@[simp] theorem State.setConn_ready (b : Bool) : (s.setConn b).ready = s.ready := rfl
@[simp] theorem State.setConn_snap (b : Bool) : (s.setConn b).snap = s.snap := rfl
@[simp] theorem State.setConn_variant (b : Bool) : (s.setConn b).variant = s.variant := rfl
@[simp] theorem State.setConn_phase (b : Bool) : (s.setConn b).phase = s.phase := rfl
@[simp] theorem State.setConn_conn (b : Bool) : (s.setConn b).conn = b := rfl
@[simp] theorem State.setConn_fatal (b : Bool) : (s.setConn b).fatal = s.fatal := rfl
@[simp] theorem State.setConn_cause (b : Bool) : (s.setConn b).cause = s.cause := rfl
@[simp] theorem State.setConn_faultByte (b : Bool) : (s.setConn b).faultByte = s.faultByte := rfl
@[simp] theorem State.setConn_faultPhase (b : Bool) : (s.setConn b).faultPhase = s.faultPhase := rfl
@[simp] theorem State.setConn_cmdErr (b : Bool) : (s.setConn b).cmdErr = s.cmdErr := rfl
@[simp] theorem State.setConn_txcnt (b : Bool) : (s.setConn b).txcnt = s.txcnt := rfl
@[simp] theorem State.setConn_rxFifo (b : Bool) : (s.setConn b).rxFifo = s.rxFifo := rfl
@[simp] theorem State.setConn_efCode (b : Bool) : (s.setConn b).efCode = s.efCode := rfl
@[simp] theorem State.setConn_efHasVal (b : Bool) : (s.setConn b).efHasVal = s.efHasVal := rfl
@[simp] theorem State.setConn_efVal (b : Bool) : (s.setConn b).efVal = s.efVal := rfl
@[simp] theorem State.setConn_tx (b : Bool) : (s.setConn b).tx = s.tx := rfl
@[simp] theorem State.setConn_busResp (b : Bool) : (s.setConn b).busResp = s.busResp := rfl
@[simp] theorem State.setConn_rxFifoDepth (b : Bool) : (s.setConn b).rxFifoDepth = s.rxFifoDepth := rfl
@[simp] theorem State.setConn_busySetPolicy (b : Bool) : (s.setConn b).busySetPolicy = s.busySetPolicy := rfl
@[simp] theorem State.setConn_agenda (b : Bool) : (s.setConn b).agenda = s.agenda := rfl
@[simp] theorem State.setConn_draws (b : Bool) : (s.setConn b).draws = s.draws := rfl

/-! ### setCmdErr -/

@[simp] theorem State.setCmdErr_fb (c : CmdErr) : (s.setCmdErr c).fb = s.fb := rfl
@[simp] theorem State.setCmdErr_ready (c : CmdErr) : (s.setCmdErr c).ready = s.ready := rfl
@[simp] theorem State.setCmdErr_snap (c : CmdErr) : (s.setCmdErr c).snap = s.snap := rfl
@[simp] theorem State.setCmdErr_variant (c : CmdErr) : (s.setCmdErr c).variant = s.variant := rfl
@[simp] theorem State.setCmdErr_phase (c : CmdErr) : (s.setCmdErr c).phase = s.phase := rfl
@[simp] theorem State.setCmdErr_conn (c : CmdErr) : (s.setCmdErr c).conn = s.conn := rfl
@[simp] theorem State.setCmdErr_fatal (c : CmdErr) : (s.setCmdErr c).fatal = s.fatal := rfl
@[simp] theorem State.setCmdErr_cause (c : CmdErr) : (s.setCmdErr c).cause = s.cause := rfl
@[simp] theorem State.setCmdErr_faultByte (c : CmdErr) : (s.setCmdErr c).faultByte = s.faultByte := rfl
@[simp] theorem State.setCmdErr_faultPhase (c : CmdErr) : (s.setCmdErr c).faultPhase = s.faultPhase := rfl
@[simp] theorem State.setCmdErr_cmdErr (c : CmdErr) : (s.setCmdErr c).cmdErr = c := rfl
@[simp] theorem State.setCmdErr_txcnt (c : CmdErr) : (s.setCmdErr c).txcnt = s.txcnt := rfl
@[simp] theorem State.setCmdErr_rxFifo (c : CmdErr) : (s.setCmdErr c).rxFifo = s.rxFifo := rfl
@[simp] theorem State.setCmdErr_efCode (c : CmdErr) : (s.setCmdErr c).efCode = s.efCode := rfl
@[simp] theorem State.setCmdErr_efHasVal (c : CmdErr) : (s.setCmdErr c).efHasVal = s.efHasVal := rfl
@[simp] theorem State.setCmdErr_efVal (c : CmdErr) : (s.setCmdErr c).efVal = s.efVal := rfl
@[simp] theorem State.setCmdErr_tx (c : CmdErr) : (s.setCmdErr c).tx = s.tx := rfl
@[simp] theorem State.setCmdErr_busResp (c : CmdErr) : (s.setCmdErr c).busResp = s.busResp := rfl
@[simp] theorem State.setCmdErr_rxFifoDepth (c : CmdErr) : (s.setCmdErr c).rxFifoDepth = s.rxFifoDepth := rfl
@[simp] theorem State.setCmdErr_busySetPolicy (c : CmdErr) : (s.setCmdErr c).busySetPolicy = s.busySetPolicy := rfl
@[simp] theorem State.setCmdErr_agenda (c : CmdErr) : (s.setCmdErr c).agenda = s.agenda := rfl
@[simp] theorem State.setCmdErr_draws (c : CmdErr) : (s.setCmdErr c).draws = s.draws := rfl

/-! ### setTxcnt -/

@[simp] theorem State.setTxcnt_fb (n : Fin 768) : (s.setTxcnt n).fb = s.fb := rfl
@[simp] theorem State.setTxcnt_ready (n : Fin 768) : (s.setTxcnt n).ready = s.ready := rfl
@[simp] theorem State.setTxcnt_snap (n : Fin 768) : (s.setTxcnt n).snap = s.snap := rfl
@[simp] theorem State.setTxcnt_variant (n : Fin 768) : (s.setTxcnt n).variant = s.variant := rfl
@[simp] theorem State.setTxcnt_phase (n : Fin 768) : (s.setTxcnt n).phase = s.phase := rfl
@[simp] theorem State.setTxcnt_conn (n : Fin 768) : (s.setTxcnt n).conn = s.conn := rfl
@[simp] theorem State.setTxcnt_fatal (n : Fin 768) : (s.setTxcnt n).fatal = s.fatal := rfl
@[simp] theorem State.setTxcnt_cause (n : Fin 768) : (s.setTxcnt n).cause = s.cause := rfl
@[simp] theorem State.setTxcnt_faultByte (n : Fin 768) : (s.setTxcnt n).faultByte = s.faultByte := rfl
@[simp] theorem State.setTxcnt_faultPhase (n : Fin 768) : (s.setTxcnt n).faultPhase = s.faultPhase := rfl
@[simp] theorem State.setTxcnt_cmdErr (n : Fin 768) : (s.setTxcnt n).cmdErr = s.cmdErr := rfl
@[simp] theorem State.setTxcnt_txcnt (n : Fin 768) : (s.setTxcnt n).txcnt = n := rfl
@[simp] theorem State.setTxcnt_rxFifo (n : Fin 768) : (s.setTxcnt n).rxFifo = s.rxFifo := rfl
@[simp] theorem State.setTxcnt_efCode (n : Fin 768) : (s.setTxcnt n).efCode = s.efCode := rfl
@[simp] theorem State.setTxcnt_efHasVal (n : Fin 768) : (s.setTxcnt n).efHasVal = s.efHasVal := rfl
@[simp] theorem State.setTxcnt_efVal (n : Fin 768) : (s.setTxcnt n).efVal = s.efVal := rfl
@[simp] theorem State.setTxcnt_tx (n : Fin 768) : (s.setTxcnt n).tx = s.tx := rfl
@[simp] theorem State.setTxcnt_busResp (n : Fin 768) : (s.setTxcnt n).busResp = s.busResp := rfl
@[simp] theorem State.setTxcnt_rxFifoDepth (n : Fin 768) : (s.setTxcnt n).rxFifoDepth = s.rxFifoDepth := rfl
@[simp] theorem State.setTxcnt_busySetPolicy (n : Fin 768) : (s.setTxcnt n).busySetPolicy = s.busySetPolicy := rfl
@[simp] theorem State.setTxcnt_agenda (n : Fin 768) : (s.setTxcnt n).agenda = s.agenda := rfl
@[simp] theorem State.setTxcnt_draws (n : Fin 768) : (s.setTxcnt n).draws = s.draws := rfl

/-! ### setRxFifo -/

@[simp] theorem State.setRxFifo_fb (q : List Byte) : (s.setRxFifo q).fb = s.fb := rfl
@[simp] theorem State.setRxFifo_ready (q : List Byte) : (s.setRxFifo q).ready = s.ready := rfl
@[simp] theorem State.setRxFifo_snap (q : List Byte) : (s.setRxFifo q).snap = s.snap := rfl
@[simp] theorem State.setRxFifo_variant (q : List Byte) : (s.setRxFifo q).variant = s.variant := rfl
@[simp] theorem State.setRxFifo_phase (q : List Byte) : (s.setRxFifo q).phase = s.phase := rfl
@[simp] theorem State.setRxFifo_conn (q : List Byte) : (s.setRxFifo q).conn = s.conn := rfl
@[simp] theorem State.setRxFifo_fatal (q : List Byte) : (s.setRxFifo q).fatal = s.fatal := rfl
@[simp] theorem State.setRxFifo_cause (q : List Byte) : (s.setRxFifo q).cause = s.cause := rfl
@[simp] theorem State.setRxFifo_faultByte (q : List Byte) : (s.setRxFifo q).faultByte = s.faultByte := rfl
@[simp] theorem State.setRxFifo_faultPhase (q : List Byte) : (s.setRxFifo q).faultPhase = s.faultPhase := rfl
@[simp] theorem State.setRxFifo_cmdErr (q : List Byte) : (s.setRxFifo q).cmdErr = s.cmdErr := rfl
@[simp] theorem State.setRxFifo_txcnt (q : List Byte) : (s.setRxFifo q).txcnt = s.txcnt := rfl
@[simp] theorem State.setRxFifo_rxFifo (q : List Byte) : (s.setRxFifo q).rxFifo = q := rfl
@[simp] theorem State.setRxFifo_efCode (q : List Byte) : (s.setRxFifo q).efCode = s.efCode := rfl
@[simp] theorem State.setRxFifo_efHasVal (q : List Byte) : (s.setRxFifo q).efHasVal = s.efHasVal := rfl
@[simp] theorem State.setRxFifo_efVal (q : List Byte) : (s.setRxFifo q).efVal = s.efVal := rfl
@[simp] theorem State.setRxFifo_tx (q : List Byte) : (s.setRxFifo q).tx = s.tx := rfl
@[simp] theorem State.setRxFifo_busResp (q : List Byte) : (s.setRxFifo q).busResp = s.busResp := rfl
@[simp] theorem State.setRxFifo_rxFifoDepth (q : List Byte) : (s.setRxFifo q).rxFifoDepth = s.rxFifoDepth := rfl
@[simp] theorem State.setRxFifo_busySetPolicy (q : List Byte) : (s.setRxFifo q).busySetPolicy = s.busySetPolicy := rfl
@[simp] theorem State.setRxFifo_agenda (q : List Byte) : (s.setRxFifo q).agenda = s.agenda := rfl
@[simp] theorem State.setRxFifo_draws (q : List Byte) : (s.setRxFifo q).draws = s.draws := rfl

/-! ### latchEffect -/

@[simp] theorem State.latchEffect_fb (c : Byte) (h : Bool) (v : Byte) : (s.latchEffect c h v).fb = s.fb := rfl
@[simp] theorem State.latchEffect_ready (c : Byte) (h : Bool) (v : Byte) : (s.latchEffect c h v).ready = s.ready := rfl
@[simp] theorem State.latchEffect_snap (c : Byte) (h : Bool) (v : Byte) : (s.latchEffect c h v).snap = s.snap := rfl
@[simp] theorem State.latchEffect_variant (c : Byte) (h : Bool) (v : Byte) : (s.latchEffect c h v).variant = s.variant := rfl
@[simp] theorem State.latchEffect_phase (c : Byte) (h : Bool) (v : Byte) : (s.latchEffect c h v).phase = s.phase := rfl
@[simp] theorem State.latchEffect_conn (c : Byte) (h : Bool) (v : Byte) : (s.latchEffect c h v).conn = s.conn := rfl
@[simp] theorem State.latchEffect_fatal (c : Byte) (h : Bool) (v : Byte) : (s.latchEffect c h v).fatal = s.fatal := rfl
@[simp] theorem State.latchEffect_cause (c : Byte) (h : Bool) (v : Byte) : (s.latchEffect c h v).cause = s.cause := rfl
@[simp] theorem State.latchEffect_faultByte (c : Byte) (h : Bool) (v : Byte) : (s.latchEffect c h v).faultByte = s.faultByte := rfl
@[simp] theorem State.latchEffect_faultPhase (c : Byte) (h : Bool) (v : Byte) : (s.latchEffect c h v).faultPhase = s.faultPhase := rfl
@[simp] theorem State.latchEffect_cmdErr (c : Byte) (h : Bool) (v : Byte) : (s.latchEffect c h v).cmdErr = s.cmdErr := rfl
@[simp] theorem State.latchEffect_txcnt (c : Byte) (h : Bool) (v : Byte) : (s.latchEffect c h v).txcnt = s.txcnt := rfl
@[simp] theorem State.latchEffect_rxFifo (c : Byte) (h : Bool) (v : Byte) : (s.latchEffect c h v).rxFifo = s.rxFifo := rfl
@[simp] theorem State.latchEffect_efCode (c : Byte) (h : Bool) (v : Byte) : (s.latchEffect c h v).efCode = c := rfl
@[simp] theorem State.latchEffect_efHasVal (c : Byte) (h : Bool) (v : Byte) : (s.latchEffect c h v).efHasVal = h := rfl
@[simp] theorem State.latchEffect_efVal (c : Byte) (h : Bool) (v : Byte) : (s.latchEffect c h v).efVal = if h then v else 0 := rfl
@[simp] theorem State.latchEffect_tx (c : Byte) (h : Bool) (v : Byte) : (s.latchEffect c h v).tx = s.tx := rfl
@[simp] theorem State.latchEffect_busResp (c : Byte) (h : Bool) (v : Byte) : (s.latchEffect c h v).busResp = s.busResp := rfl
@[simp] theorem State.latchEffect_rxFifoDepth (c : Byte) (h : Bool) (v : Byte) : (s.latchEffect c h v).rxFifoDepth = s.rxFifoDepth := rfl
@[simp] theorem State.latchEffect_busySetPolicy (c : Byte) (h : Bool) (v : Byte) : (s.latchEffect c h v).busySetPolicy = s.busySetPolicy := rfl
@[simp] theorem State.latchEffect_agenda (c : Byte) (h : Bool) (v : Byte) : (s.latchEffect c h v).agenda = s.agenda := rfl
@[simp] theorem State.latchEffect_draws (c : Byte) (h : Bool) (v : Byte) : (s.latchEffect c h v).draws = s.draws := rfl

/-! ### emit -/

@[simp] theorem State.emit_fb (b : Byte) : (s.emit b).fb = s.fb := rfl
@[simp] theorem State.emit_ready (b : Byte) : (s.emit b).ready = s.ready := rfl
@[simp] theorem State.emit_snap (b : Byte) : (s.emit b).snap = s.snap := rfl
@[simp] theorem State.emit_variant (b : Byte) : (s.emit b).variant = s.variant := rfl
@[simp] theorem State.emit_phase (b : Byte) : (s.emit b).phase = s.phase := rfl
@[simp] theorem State.emit_conn (b : Byte) : (s.emit b).conn = s.conn := rfl
@[simp] theorem State.emit_fatal (b : Byte) : (s.emit b).fatal = s.fatal := rfl
@[simp] theorem State.emit_cause (b : Byte) : (s.emit b).cause = s.cause := rfl
@[simp] theorem State.emit_faultByte (b : Byte) : (s.emit b).faultByte = s.faultByte := rfl
@[simp] theorem State.emit_faultPhase (b : Byte) : (s.emit b).faultPhase = s.faultPhase := rfl
@[simp] theorem State.emit_cmdErr (b : Byte) : (s.emit b).cmdErr = s.cmdErr := rfl
@[simp] theorem State.emit_txcnt (b : Byte) : (s.emit b).txcnt = s.txcnt := rfl
@[simp] theorem State.emit_rxFifo (b : Byte) : (s.emit b).rxFifo = s.rxFifo := rfl
@[simp] theorem State.emit_efCode (b : Byte) : (s.emit b).efCode = s.efCode := rfl
@[simp] theorem State.emit_efHasVal (b : Byte) : (s.emit b).efHasVal = s.efHasVal := rfl
@[simp] theorem State.emit_efVal (b : Byte) : (s.emit b).efVal = s.efVal := rfl
@[simp] theorem State.emit_tx (b : Byte) : (s.emit b).tx = s.tx ++ [b] := rfl
@[simp] theorem State.emit_busResp (b : Byte) : (s.emit b).busResp = s.busResp := rfl
@[simp] theorem State.emit_rxFifoDepth (b : Byte) : (s.emit b).rxFifoDepth = s.rxFifoDepth := rfl
@[simp] theorem State.emit_busySetPolicy (b : Byte) : (s.emit b).busySetPolicy = s.busySetPolicy := rfl
@[simp] theorem State.emit_agenda (b : Byte) : (s.emit b).agenda = s.agenda := rfl
@[simp] theorem State.emit_draws (b : Byte) : (s.emit b).draws = s.draws := rfl

/-! ### drawn -/

@[simp] theorem State.drawn_fb : s.drawn.fb = s.fb := rfl
@[simp] theorem State.drawn_ready : s.drawn.ready = s.ready := rfl
@[simp] theorem State.drawn_snap : s.drawn.snap = s.snap := rfl
@[simp] theorem State.drawn_variant : s.drawn.variant = s.variant := rfl
@[simp] theorem State.drawn_phase : s.drawn.phase = s.phase := rfl
@[simp] theorem State.drawn_conn : s.drawn.conn = s.conn := rfl
@[simp] theorem State.drawn_fatal : s.drawn.fatal = s.fatal := rfl
@[simp] theorem State.drawn_cause : s.drawn.cause = s.cause := rfl
@[simp] theorem State.drawn_faultByte : s.drawn.faultByte = s.faultByte := rfl
@[simp] theorem State.drawn_faultPhase : s.drawn.faultPhase = s.faultPhase := rfl
@[simp] theorem State.drawn_cmdErr : s.drawn.cmdErr = s.cmdErr := rfl
@[simp] theorem State.drawn_txcnt : s.drawn.txcnt = s.txcnt := rfl
@[simp] theorem State.drawn_rxFifo : s.drawn.rxFifo = s.rxFifo := rfl
@[simp] theorem State.drawn_efCode : s.drawn.efCode = s.efCode := rfl
@[simp] theorem State.drawn_efHasVal : s.drawn.efHasVal = s.efHasVal := rfl
@[simp] theorem State.drawn_efVal : s.drawn.efVal = s.efVal := rfl
@[simp] theorem State.drawn_tx : s.drawn.tx = s.tx := rfl
@[simp] theorem State.drawn_busResp : s.drawn.busResp = s.busResp := rfl
@[simp] theorem State.drawn_rxFifoDepth : s.drawn.rxFifoDepth = s.rxFifoDepth := rfl
@[simp] theorem State.drawn_busySetPolicy : s.drawn.busySetPolicy = s.busySetPolicy := rfl
@[simp] theorem State.drawn_agenda : s.drawn.agenda = s.agenda := rfl
@[simp] theorem State.drawn_draws : s.drawn.draws = s.draws + 1 := rfl

/-! ### okay -/

@[simp] theorem State.okay_fb (d : Data) : (s.okay d).fb = s.fb := rfl
@[simp] theorem State.okay_ready (d : Data) : (s.okay d).ready = s.ready := rfl
@[simp] theorem State.okay_snap (d : Data) : (s.okay d).snap = s.snap := rfl
@[simp] theorem State.okay_variant (d : Data) : (s.okay d).variant = s.variant := rfl
@[simp] theorem State.okay_phase (d : Data) : (s.okay d).phase = s.phase := rfl
@[simp] theorem State.okay_conn (d : Data) : (s.okay d).conn = s.conn := rfl
@[simp] theorem State.okay_fatal (d : Data) : (s.okay d).fatal = s.fatal := rfl
@[simp] theorem State.okay_cause (d : Data) : (s.okay d).cause = s.cause := rfl
@[simp] theorem State.okay_faultByte (d : Data) : (s.okay d).faultByte = s.faultByte := rfl
@[simp] theorem State.okay_faultPhase (d : Data) : (s.okay d).faultPhase = s.faultPhase := rfl
@[simp] theorem State.okay_cmdErr (d : Data) : (s.okay d).cmdErr = s.cmdErr := rfl
@[simp] theorem State.okay_txcnt (d : Data) : (s.okay d).txcnt = s.txcnt := rfl
@[simp] theorem State.okay_rxFifo (d : Data) : (s.okay d).rxFifo = s.rxFifo := rfl
@[simp] theorem State.okay_efCode (d : Data) : (s.okay d).efCode = s.efCode := rfl
@[simp] theorem State.okay_efHasVal (d : Data) : (s.okay d).efHasVal = s.efHasVal := rfl
@[simp] theorem State.okay_efVal (d : Data) : (s.okay d).efVal = s.efVal := rfl
@[simp] theorem State.okay_tx (d : Data) : (s.okay d).tx = s.tx := rfl
@[simp] theorem State.okay_busResp (d : Data) : (s.okay d).busResp = some { err := false, rdata := d } := rfl
@[simp] theorem State.okay_rxFifoDepth (d : Data) : (s.okay d).rxFifoDepth = s.rxFifoDepth := rfl
@[simp] theorem State.okay_busySetPolicy (d : Data) : (s.okay d).busySetPolicy = s.busySetPolicy := rfl
@[simp] theorem State.okay_agenda (d : Data) : (s.okay d).agenda = s.agenda := rfl
@[simp] theorem State.okay_draws (d : Data) : (s.okay d).draws = s.draws := rfl

/-! ### busError -/

@[simp] theorem State.busError_fb : s.busError.fb = s.fb := rfl
@[simp] theorem State.busError_ready : s.busError.ready = s.ready := rfl
@[simp] theorem State.busError_snap : s.busError.snap = s.snap := rfl
@[simp] theorem State.busError_variant : s.busError.variant = s.variant := rfl
@[simp] theorem State.busError_phase : s.busError.phase = s.phase := rfl
@[simp] theorem State.busError_conn : s.busError.conn = s.conn := rfl
@[simp] theorem State.busError_fatal : s.busError.fatal = s.fatal := rfl
@[simp] theorem State.busError_cause : s.busError.cause = s.cause := rfl
@[simp] theorem State.busError_faultByte : s.busError.faultByte = s.faultByte := rfl
@[simp] theorem State.busError_faultPhase : s.busError.faultPhase = s.faultPhase := rfl
@[simp] theorem State.busError_cmdErr : s.busError.cmdErr = s.cmdErr := rfl
@[simp] theorem State.busError_txcnt : s.busError.txcnt = s.txcnt := rfl
@[simp] theorem State.busError_rxFifo : s.busError.rxFifo = s.rxFifo := rfl
@[simp] theorem State.busError_efCode : s.busError.efCode = s.efCode := rfl
@[simp] theorem State.busError_efHasVal : s.busError.efHasVal = s.efHasVal := rfl
@[simp] theorem State.busError_efVal : s.busError.efVal = s.efVal := rfl
@[simp] theorem State.busError_tx : s.busError.tx = s.tx := rfl
@[simp] theorem State.busError_busResp : s.busError.busResp = some { err := true, rdata := 0 } := rfl
@[simp] theorem State.busError_rxFifoDepth : s.busError.rxFifoDepth = s.rxFifoDepth := rfl
@[simp] theorem State.busError_busySetPolicy : s.busError.busySetPolicy = s.busySetPolicy := rfl
@[simp] theorem State.busError_agenda : s.busError.agenda = s.agenda := rfl
@[simp] theorem State.busError_draws : s.busError.draws = s.draws := rfl

/-! ### accept -/

@[simp] theorem State.accept_fb : s.accept.fb = s.fb := rfl
@[simp] theorem State.accept_ready : s.accept.ready = s.ready := rfl
@[simp] theorem State.accept_snap : s.accept.snap = s.snap := rfl
@[simp] theorem State.accept_variant : s.accept.variant = s.variant := rfl
@[simp] theorem State.accept_phase : s.accept.phase = s.phase := rfl
@[simp] theorem State.accept_conn : s.accept.conn = s.conn := rfl
@[simp] theorem State.accept_fatal : s.accept.fatal = s.fatal := rfl
@[simp] theorem State.accept_cause : s.accept.cause = s.cause := rfl
@[simp] theorem State.accept_faultByte : s.accept.faultByte = s.faultByte := rfl
@[simp] theorem State.accept_faultPhase : s.accept.faultPhase = s.faultPhase := rfl
@[simp] theorem State.accept_cmdErr : s.accept.cmdErr = CmdErr.ok := rfl
@[simp] theorem State.accept_txcnt : s.accept.txcnt = s.txcnt := rfl
@[simp] theorem State.accept_rxFifo : s.accept.rxFifo = s.rxFifo := rfl
@[simp] theorem State.accept_efCode : s.accept.efCode = s.efCode := rfl
@[simp] theorem State.accept_efHasVal : s.accept.efHasVal = s.efHasVal := rfl
@[simp] theorem State.accept_efVal : s.accept.efVal = s.efVal := rfl
@[simp] theorem State.accept_tx : s.accept.tx = s.tx := rfl
@[simp] theorem State.accept_busResp : s.accept.busResp = some { err := false, rdata := 0 } := rfl
@[simp] theorem State.accept_rxFifoDepth : s.accept.rxFifoDepth = s.rxFifoDepth := rfl
@[simp] theorem State.accept_busySetPolicy : s.accept.busySetPolicy = s.busySetPolicy := rfl
@[simp] theorem State.accept_agenda : s.accept.agenda = s.agenda := rfl
@[simp] theorem State.accept_draws : s.accept.draws = s.draws := rfl

/-! ### reject -/

@[simp] theorem State.reject_fb (c : CmdErr) : (s.reject c).fb = s.fb := rfl
@[simp] theorem State.reject_ready (c : CmdErr) : (s.reject c).ready = s.ready := rfl
@[simp] theorem State.reject_snap (c : CmdErr) : (s.reject c).snap = s.snap := rfl
@[simp] theorem State.reject_variant (c : CmdErr) : (s.reject c).variant = s.variant := rfl
@[simp] theorem State.reject_phase (c : CmdErr) : (s.reject c).phase = s.phase := rfl
@[simp] theorem State.reject_conn (c : CmdErr) : (s.reject c).conn = s.conn := rfl
@[simp] theorem State.reject_fatal (c : CmdErr) : (s.reject c).fatal = s.fatal := rfl
@[simp] theorem State.reject_cause (c : CmdErr) : (s.reject c).cause = s.cause := rfl
@[simp] theorem State.reject_faultByte (c : CmdErr) : (s.reject c).faultByte = s.faultByte := rfl
@[simp] theorem State.reject_faultPhase (c : CmdErr) : (s.reject c).faultPhase = s.faultPhase := rfl
@[simp] theorem State.reject_cmdErr (c : CmdErr) : (s.reject c).cmdErr = c := rfl
@[simp] theorem State.reject_txcnt (c : CmdErr) : (s.reject c).txcnt = s.txcnt := rfl
@[simp] theorem State.reject_rxFifo (c : CmdErr) : (s.reject c).rxFifo = s.rxFifo := rfl
@[simp] theorem State.reject_efCode (c : CmdErr) : (s.reject c).efCode = s.efCode := rfl
@[simp] theorem State.reject_efHasVal (c : CmdErr) : (s.reject c).efHasVal = s.efHasVal := rfl
@[simp] theorem State.reject_efVal (c : CmdErr) : (s.reject c).efVal = s.efVal := rfl
@[simp] theorem State.reject_tx (c : CmdErr) : (s.reject c).tx = s.tx := rfl
@[simp] theorem State.reject_busResp (c : CmdErr) : (s.reject c).busResp = some { err := false, rdata := 0 } := rfl
@[simp] theorem State.reject_rxFifoDepth (c : CmdErr) : (s.reject c).rxFifoDepth = s.rxFifoDepth := rfl
@[simp] theorem State.reject_busySetPolicy (c : CmdErr) : (s.reject c).busySetPolicy = s.busySetPolicy := rfl
@[simp] theorem State.reject_agenda (c : CmdErr) : (s.reject c).agenda = s.agenda := rfl
@[simp] theorem State.reject_draws (c : CmdErr) : (s.reject c).draws = s.draws := rfl

/-! ### withEvent -/

@[simp] theorem State.withEvent_fb (e : Event) : (s.withEvent e).fb = s.fb := rfl
@[simp] theorem State.withEvent_ready (e : Event) : (s.withEvent e).ready = s.ready := rfl
@[simp] theorem State.withEvent_snap (e : Event) : (s.withEvent e).snap = s.snap := rfl
@[simp] theorem State.withEvent_variant (e : Event) : (s.withEvent e).variant = s.variant := rfl
@[simp] theorem State.withEvent_phase (e : Event) : (s.withEvent e).phase = s.phase := rfl
@[simp] theorem State.withEvent_conn (e : Event) : (s.withEvent e).conn = s.conn := rfl
@[simp] theorem State.withEvent_fatal (e : Event) : (s.withEvent e).fatal = s.fatal := rfl
@[simp] theorem State.withEvent_cause (e : Event) : (s.withEvent e).cause = s.cause := rfl
@[simp] theorem State.withEvent_faultByte (e : Event) : (s.withEvent e).faultByte = s.faultByte := rfl
@[simp] theorem State.withEvent_faultPhase (e : Event) : (s.withEvent e).faultPhase = s.faultPhase := rfl
@[simp] theorem State.withEvent_cmdErr (e : Event) : (s.withEvent e).cmdErr = s.cmdErr := rfl
@[simp] theorem State.withEvent_txcnt (e : Event) : (s.withEvent e).txcnt = s.txcnt := rfl
@[simp] theorem State.withEvent_rxFifo (e : Event) : (s.withEvent e).rxFifo = s.rxFifo := rfl
@[simp] theorem State.withEvent_efCode (e : Event) : (s.withEvent e).efCode = s.efCode := rfl
@[simp] theorem State.withEvent_efHasVal (e : Event) : (s.withEvent e).efHasVal = s.efHasVal := rfl
@[simp] theorem State.withEvent_efVal (e : Event) : (s.withEvent e).efVal = s.efVal := rfl
@[simp] theorem State.withEvent_tx (e : Event) : (s.withEvent e).tx = s.tx := rfl
@[simp] theorem State.withEvent_busResp (e : Event) : (s.withEvent e).busResp = s.busResp := rfl
@[simp] theorem State.withEvent_rxFifoDepth (e : Event) : (s.withEvent e).rxFifoDepth = s.rxFifoDepth := rfl
@[simp] theorem State.withEvent_busySetPolicy (e : Event) : (s.withEvent e).busySetPolicy = s.busySetPolicy := rfl
@[simp] theorem State.withEvent_agenda (e : Event) : (s.withEvent e).agenda = e :: s.agenda := rfl
@[simp] theorem State.withEvent_draws (e : Event) : (s.withEvent e).draws = s.draws := rfl

/-! ### resetBlock keeps what is not the block's, and takes every other field from State.reset -/

@[simp] theorem State.resetBlock_fb : s.resetBlock.fb = State.reset.fb := rfl
@[simp] theorem State.resetBlock_ready : s.resetBlock.ready = State.reset.ready := rfl
@[simp] theorem State.resetBlock_snap : s.resetBlock.snap = State.reset.snap := rfl
@[simp] theorem State.resetBlock_variant : s.resetBlock.variant = State.reset.variant := rfl
@[simp] theorem State.resetBlock_phase : s.resetBlock.phase = State.reset.phase := rfl
@[simp] theorem State.resetBlock_conn : s.resetBlock.conn = State.reset.conn := rfl
@[simp] theorem State.resetBlock_fatal : s.resetBlock.fatal = State.reset.fatal := rfl
@[simp] theorem State.resetBlock_cause : s.resetBlock.cause = State.reset.cause := rfl
@[simp] theorem State.resetBlock_faultByte : s.resetBlock.faultByte = State.reset.faultByte := rfl
@[simp] theorem State.resetBlock_faultPhase : s.resetBlock.faultPhase = State.reset.faultPhase := rfl
@[simp] theorem State.resetBlock_cmdErr : s.resetBlock.cmdErr = State.reset.cmdErr := rfl
@[simp] theorem State.resetBlock_txcnt : s.resetBlock.txcnt = State.reset.txcnt := rfl
@[simp] theorem State.resetBlock_rxFifo : s.resetBlock.rxFifo = State.reset.rxFifo := rfl
@[simp] theorem State.resetBlock_efCode : s.resetBlock.efCode = State.reset.efCode := rfl
@[simp] theorem State.resetBlock_efHasVal : s.resetBlock.efHasVal = State.reset.efHasVal := rfl
@[simp] theorem State.resetBlock_efVal : s.resetBlock.efVal = State.reset.efVal := rfl
@[simp] theorem State.resetBlock_tx : s.resetBlock.tx = s.tx := rfl
@[simp] theorem State.resetBlock_busResp : s.resetBlock.busResp = State.reset.busResp := rfl
@[simp] theorem State.resetBlock_rxFifoDepth : s.resetBlock.rxFifoDepth = s.rxFifoDepth := rfl
@[simp] theorem State.resetBlock_busySetPolicy : s.resetBlock.busySetPolicy = s.busySetPolicy := rfl
@[simp] theorem State.resetBlock_agenda : s.resetBlock.agenda = s.agenda := rfl
@[simp] theorem State.resetBlock_draws : s.resetBlock.draws = s.draws := rfl

/-! ### raiseFatal: the fields that fatal entry keeps (R241) -/

@[simp] theorem State.raiseFatal_fb (c : Cause) (b : Byte) : (s.raiseFatal c b).fb = s.fb := by
  unfold State.raiseFatal; split <;> rfl
@[simp] theorem State.raiseFatal_ready (c : Cause) (b : Byte) : (s.raiseFatal c b).ready = s.ready := by
  unfold State.raiseFatal; split <;> rfl
@[simp] theorem State.raiseFatal_snap (c : Cause) (b : Byte) : (s.raiseFatal c b).snap = s.snap := by
  unfold State.raiseFatal; split <;> rfl
@[simp] theorem State.raiseFatal_variant (c : Cause) (b : Byte) : (s.raiseFatal c b).variant = s.variant := by
  unfold State.raiseFatal; split <;> rfl
@[simp] theorem State.raiseFatal_cmdErr (c : Cause) (b : Byte) : (s.raiseFatal c b).cmdErr = s.cmdErr := by
  unfold State.raiseFatal; split <;> rfl
@[simp] theorem State.raiseFatal_efCode (c : Cause) (b : Byte) : (s.raiseFatal c b).efCode = s.efCode := by
  unfold State.raiseFatal; split <;> rfl
@[simp] theorem State.raiseFatal_efHasVal (c : Cause) (b : Byte) : (s.raiseFatal c b).efHasVal = s.efHasVal := by
  unfold State.raiseFatal; split <;> rfl
@[simp] theorem State.raiseFatal_efVal (c : Cause) (b : Byte) : (s.raiseFatal c b).efVal = s.efVal := by
  unfold State.raiseFatal; split <;> rfl
@[simp] theorem State.raiseFatal_tx (c : Cause) (b : Byte) : (s.raiseFatal c b).tx = s.tx := by
  unfold State.raiseFatal; split <;> rfl
@[simp] theorem State.raiseFatal_busResp (c : Cause) (b : Byte) : (s.raiseFatal c b).busResp = s.busResp := by
  unfold State.raiseFatal; split <;> rfl
@[simp] theorem State.raiseFatal_rxFifoDepth (c : Cause) (b : Byte) : (s.raiseFatal c b).rxFifoDepth = s.rxFifoDepth := by
  unfold State.raiseFatal; split <;> rfl
@[simp] theorem State.raiseFatal_busySetPolicy (c : Cause) (b : Byte) : (s.raiseFatal c b).busySetPolicy = s.busySetPolicy := by
  unfold State.raiseFatal; split <;> rfl
@[simp] theorem State.raiseFatal_agenda (c : Cause) (b : Byte) : (s.raiseFatal c b).agenda = s.agenda := by
  unfold State.raiseFatal; split <;> rfl
@[simp] theorem State.raiseFatal_draws (c : Cause) (b : Byte) : (s.raiseFatal c b).draws = s.draws := by
  unfold State.raiseFatal; split <;> rfl

/-- With FATAL = 1 fatal entry changes nothing (R241, R245). -/
theorem State.raiseFatal_of_fatal (c : Cause) (b : Byte) (h : s.fatal = true) : s.raiseFatal c b = s := by
  simp [State.raiseFatal, h]

/-! ### Fetching an entry changes the agenda and the draws alone -/

@[simp] theorem State.afterFetch_fb : s.afterFetch.fb = s.fb := by
  unfold State.afterFetch; split <;> rfl
@[simp] theorem State.afterFetch_ready : s.afterFetch.ready = s.ready := by
  unfold State.afterFetch; split <;> rfl
@[simp] theorem State.afterFetch_snap : s.afterFetch.snap = s.snap := by
  unfold State.afterFetch; split <;> rfl
@[simp] theorem State.afterFetch_variant : s.afterFetch.variant = s.variant := by
  unfold State.afterFetch; split <;> rfl
@[simp] theorem State.afterFetch_phase : s.afterFetch.phase = s.phase := by
  unfold State.afterFetch; split <;> rfl
@[simp] theorem State.afterFetch_conn : s.afterFetch.conn = s.conn := by
  unfold State.afterFetch; split <;> rfl
@[simp] theorem State.afterFetch_fatal : s.afterFetch.fatal = s.fatal := by
  unfold State.afterFetch; split <;> rfl
@[simp] theorem State.afterFetch_cause : s.afterFetch.cause = s.cause := by
  unfold State.afterFetch; split <;> rfl
@[simp] theorem State.afterFetch_faultByte : s.afterFetch.faultByte = s.faultByte := by
  unfold State.afterFetch; split <;> rfl
@[simp] theorem State.afterFetch_faultPhase : s.afterFetch.faultPhase = s.faultPhase := by
  unfold State.afterFetch; split <;> rfl
@[simp] theorem State.afterFetch_cmdErr : s.afterFetch.cmdErr = s.cmdErr := by
  unfold State.afterFetch; split <;> rfl
@[simp] theorem State.afterFetch_txcnt : s.afterFetch.txcnt = s.txcnt := by
  unfold State.afterFetch; split <;> rfl
@[simp] theorem State.afterFetch_rxFifo : s.afterFetch.rxFifo = s.rxFifo := by
  unfold State.afterFetch; split <;> rfl
@[simp] theorem State.afterFetch_efCode : s.afterFetch.efCode = s.efCode := by
  unfold State.afterFetch; split <;> rfl
@[simp] theorem State.afterFetch_efHasVal : s.afterFetch.efHasVal = s.efHasVal := by
  unfold State.afterFetch; split <;> rfl
@[simp] theorem State.afterFetch_efVal : s.afterFetch.efVal = s.efVal := by
  unfold State.afterFetch; split <;> rfl
@[simp] theorem State.afterFetch_tx : s.afterFetch.tx = s.tx := by
  unfold State.afterFetch; split <;> rfl
@[simp] theorem State.afterFetch_busResp : s.afterFetch.busResp = s.busResp := by
  unfold State.afterFetch; split <;> rfl
@[simp] theorem State.afterFetch_rxFifoDepth : s.afterFetch.rxFifoDepth = s.rxFifoDepth := by
  unfold State.afterFetch; split <;> rfl
@[simp] theorem State.afterFetch_busySetPolicy : s.afterFetch.busySetPolicy = s.busySetPolicy := by
  unfold State.afterFetch; split <;> rfl

/-! ### A pushed entry is the next one -/

@[simp] theorem State.nextEvent_withEvent (e : Event) : (s.withEvent e).nextEvent = e := rfl
@[simp] theorem State.afterFetch_withEvent (e : Event) : (s.withEvent e).afterFetch = s := rfl

end Sys2Proof.Machine
end

