-- ==== Sys2Proof/Laws/Engine.lean ====
section
/-! SUPPORT. What the Engine's, the Device's and the Timer's steps can do: one lemma per shared step
with every case of it, and the fields that no Engine step writes. -/

namespace Sys2Proof.Machine

variable (s : State)

/-- Fatal entry as the record that the spec's table gives. -/
theorem State.raiseFatal_of_not_fatal (c : Cause) (b : Byte) (h : s.fatal = false) :
    s.raiseFatal c b = fatalEntry s c b := by
  simp [State.raiseFatal, fatalEntry, h]

/-- Where fatal entry goes, in either case of FATAL. -/
theorem State.raiseFatal_cases (c : Cause) (b : Byte) :
    (s.fatal = true ∧ s.raiseFatal c b = s) ∨ (s.fatal = false ∧ s.raiseFatal c b = fatalEntry s c b) := by
  cases h : s.fatal
  · exact Or.inr ⟨rfl, s.raiseFatal_of_not_fatal c b h⟩
  · exact Or.inl ⟨rfl, s.raiseFatal_of_fatal c b h⟩

/-- The fatal phase of a variant, as the record spells it. -/
theorem fatalEntry_phase (c : Cause) (b : Byte) : (fatalEntry s c b).phase = fatalPhase s.variant := by
  cases hv : s.variant <;> simp [fatalEntry, fatalPhase, hv]

/-- Everything a WAIT step can do (R211). -/
theorem waitStep_cases (success : State → State) :
    (s.rxFifo = [] ∧ waitStep s success = s) ∨
    ∃ b rest, s.rxFifo = b :: rest ∧
      ((b = s.phase.ackCode ∧ waitStep s success = success (s.setRxFifo rest)) ∨
       (b ≠ s.phase.ackCode ∧ b = char .E ∧ waitStep s success = (s.setRxFifo rest).raiseFatal .deviceError b) ∨
       (b ≠ s.phase.ackCode ∧ b ≠ char .E ∧ waitStep s success = (s.setRxFifo rest).raiseFatal .badByte b)) := by
  unfold waitStep
  split
  · exact Or.inl ⟨by assumption, rfl⟩
  · rename_i b rest h
    refine Or.inr ⟨b, rest, h, ?_⟩
    by_cases h1 : b = s.phase.ackCode
    · exact Or.inl ⟨h1, by simp [h1]⟩
    · by_cases h2 : b = char .E
      · exact Or.inr (Or.inl ⟨h1, h2, by rw [if_neg h1, if_pos h2]⟩)
      · exact Or.inr (Or.inr ⟨h1, h2, by simp [h1, h2]⟩)

/-- Everything the consume step can do (R190). -/
theorem consume_cases :
    (s.fb.allValid = true ∧ consume s =
      (((s.setReady false).setSnap (encodeFrame s.variant s.fb.rgb)).setTxcnt 0).setPhase
        (if s.variant = .socket then .txG0 else .txG1)) ∨
    (s.fb.allValid = false ∧ consume s = (s.setReady false).raiseFatal .unsetPixel 0) := by
  unfold consume
  cases h : s.fb.allValid
  · exact Or.inr ⟨rfl, by simp⟩
  · exact Or.inl ⟨rfl, by simp⟩

/-- Everything the IDLE step can do (R189, R212, R213). -/
theorem idleStep_cases :
    (∃ rest, s.variant = .serial ∧ s.rxFifo = char .E :: rest ∧
      idleStep s = (s.setRxFifo rest).raiseFatal .deviceError (char .E)) ∨
    (∃ b rest, s.variant = .serial ∧ s.rxFifo = b :: rest ∧ b ≠ char .E ∧ idleStep s = s.setRxFifo rest) ∨
    (¬ (s.variant = .serial ∧ s.rxFifo ≠ []) ∧ s.ready = true ∧ idleStep s = consume s) ∨
    (¬ (s.variant = .serial ∧ s.rxFifo ≠ []) ∧ s.ready = false ∧ idleStep s = s) := by
  unfold idleStep
  by_cases h : s.variant = .serial ∧ s.rxFifo ≠ []
  · obtain ⟨hv, hq⟩ := h
    cases hr : s.rxFifo with
    | nil => exact absurd hr hq
    | cons b rest =>
      by_cases hb : b = char .E
      · subst hb
        exact Or.inl ⟨rest, hv, rfl, by simp [hv, serialIdleReceive, hr]⟩
      · exact Or.inr (Or.inl ⟨b, rest, hv, rfl, hb, by simp [hv, serialIdleReceive, hr, hb]⟩)
  · cases hr : s.ready
    · exact Or.inr (Or.inr (Or.inr ⟨h, rfl, by simp [h]⟩))
    · exact Or.inr (Or.inr (Or.inl ⟨h, rfl, by simp [h]⟩))

/-- Everything a delivery can do (R210). -/
theorem deliver_cases (b : Byte) :
    (s.phase.rxOpen = false ∧ deliver s b = s) ∨
    (s.phase.rxOpen = true ∧ s.rxFifoDepth ≤ s.rxFifo.length ∧ deliver s b = s.raiseFatal .rxOverflow 0) ∨
    (s.phase.rxOpen = true ∧ s.rxFifo.length < s.rxFifoDepth ∧ deliver s b = s.setRxFifo (s.rxFifo ++ [b])) := by
  unfold deliver
  cases h : s.phase.rxOpen
  · exact Or.inl ⟨rfl, by simp⟩
  · by_cases hd : s.rxFifoDepth ≤ s.rxFifo.length
    · exact Or.inr (Or.inl ⟨rfl, hd, by simp [hd]⟩)
    · exact Or.inr (Or.inr ⟨rfl, by omega, by simp [hd]⟩)

/-- Everything a timeout can do (R214). -/
theorem timeoutStep_cases :
    (s.phase.isWait = true ∧ s.phase ≠ .efWaitD ∧ s.rxFifo = [] ∧ timeoutStep s = s.raiseFatal .timeout 0) ∨
    (¬ (s.phase.isWait = true ∧ s.phase ≠ .efWaitD ∧ s.rxFifo = []) ∧ timeoutStep s = s) := by
  unfold timeoutStep
  split
  · rename_i h; exact Or.inl ⟨h.1, h.2.1, h.2.2, rfl⟩
  · rename_i h; exact Or.inr ⟨h, rfl⟩

/-! ### The Engine's step in each WAIT phase and in TX_FRAME -/

variable {s}

theorem engineStep_hsWaitS (h : s.phase = .hsWaitS) :
    engineStep s = waitStep s fun t => t.setPhase (if s.variant = .socket then .hsG0 else .hsG1) := by
  simp only [engineStep, h]

theorem engineStep_hsWaitA (h : s.phase = .hsWaitA) :
    engineStep s = waitStep s fun t => (t.setConn true).setPhase .idle := by
  simp only [engineStep, h]

theorem engineStep_txWaitA (h : s.phase = .txWaitA) :
    engineStep s = waitStep s fun t => (t.setTxcnt 0).setPhase .txFrame := by
  simp only [engineStep, h]

theorem engineStep_txWaitD (h : s.phase = .txWaitD) :
    engineStep s = waitStep s fun t => t.setPhase .idle := by
  simp only [engineStep, h]

theorem engineStep_efWaitA1 (h : s.phase = .efWaitA1) :
    engineStep s = waitStep s fun t => t.setPhase (if s.efHasVal then .efVal else .efWaitD) := by
  simp only [engineStep, h]

theorem engineStep_efWaitA2 (h : s.phase = .efWaitA2) :
    engineStep s = waitStep s fun t => t.setPhase .efWaitD := by
  simp only [engineStep, h]

theorem engineStep_efWaitD (h : s.phase = .efWaitD) :
    engineStep s = waitStep s fun t => t.setPhase .idle := by
  simp only [engineStep, h]

/-! ### The Engine's step in each SEND phase but TX_FRAME -/

theorem engineStep_hsK0 (h : s.phase = .hsK0) : engineStep s = (s.emit 0).setPhase .hsK1 := by
  simp only [engineStep, h]

theorem engineStep_hsK1 (h : s.phase = .hsK1) : engineStep s = (s.emit (char .K)).setPhase .hsWaitS := by
  simp only [engineStep, h]

theorem engineStep_hsG0 (h : s.phase = .hsG0) : engineStep s = (s.emit 0).setPhase .hsG1 := by
  simp only [engineStep, h]

theorem engineStep_hsG1 (h : s.phase = .hsG1) : engineStep s = (s.emit (char .G)).setPhase .hsWaitA := by
  simp only [engineStep, h]

theorem engineStep_txG0 (h : s.phase = .txG0) : engineStep s = (s.emit 0).setPhase .txG1 := by
  simp only [engineStep, h]

theorem engineStep_txG1 (h : s.phase = .txG1) : engineStep s = (s.emit (char .G)).setPhase .txWaitA := by
  simp only [engineStep, h]

theorem engineStep_efCmd (h : s.phase = .efCmd) : engineStep s = (s.emit s.efCode).setPhase (if s.efCode = char .Z then .idle else .efWaitA1) := by
  simp only [engineStep, h, effectCommandStep]

theorem engineStep_efVal (h : s.phase = .efVal) : engineStep s = (s.emit s.efVal).setPhase .efWaitA2 := by
  simp only [engineStep, h]

theorem engineStep_dcQ0 (h : s.phase = .dcQ0) : engineStep s = (s.emit 0).setPhase .dcQ1 := by
  simp only [engineStep, h]

theorem engineStep_dcQ1 (h : s.phase = .dcQ1) : engineStep s = (s.emit (char .Q)).setPhase .disc := by
  simp only [engineStep, h]

theorem engineStep_fltZ (h : s.phase = .fltZ) : engineStep s = (s.emit (char .Z)).setPhase .halt := by
  simp only [engineStep, h]

theorem engineStep_fltQ0 (h : s.phase = .fltQ0) : engineStep s = (s.emit 0).setPhase .fltQ1 := by
  simp only [engineStep, h]

theorem engineStep_fltQ1 (h : s.phase = .fltQ1) : engineStep s = (s.emit (char .Q)).setPhase .halt := by
  simp only [engineStep, h]

theorem engineStep_txFrame (h : s.phase = .txFrame) : engineStep s = frameStep s := by
  simp only [engineStep, h]

theorem engineStep_idle (h : s.phase = .idle) : engineStep s = idleStep s := by
  simp only [engineStep, h]

variable (s)

/-- A step that emits and moves on, in the form the case analysis gives every SEND step. -/
theorem send_form {b : Byte} {p : Phase} (e : engineStep s = (s.emit b).setPhase p) :
    ∃ b p n, engineStep s = ((s.emit b).setTxcnt n).setPhase p := ⟨b, p, s.txcnt, e⟩

/-- The Engine's step by class of phase: a WAIT phase checks a byte, IDLE does the IDLE step, a SEND
phase emits one byte and keeps the FIFO, DISC and HALT hold (R184). -/
theorem engineStep_cases :
    (s.phase.isWait = true ∧ ∃ success : State → State, engineStep s = waitStep s success ∧
      ∀ u : State, ∃ p, success u = u.setPhase p ∨ success u = (u.setConn true).setPhase p ∨
        success u = (u.setTxcnt 0).setPhase p) ∨
    (s.phase = .idle ∧ engineStep s = idleStep s) ∨
    (s.phase.isSend = true ∧ ∃ b p n, engineStep s = ((s.emit b).setTxcnt n).setPhase p) ∨
    ((s.phase = .disc ∨ s.phase = .halt) ∧ engineStep s = s) := by
  cases h : s.phase
  case idle => exact Or.inr (Or.inl ⟨rfl, by simp [engineStep, h]⟩)
  case disc => exact Or.inr (Or.inr (Or.inr ⟨Or.inl rfl, by simp [engineStep, h]⟩))
  case halt => exact Or.inr (Or.inr (Or.inr ⟨Or.inr rfl, by simp [engineStep, h]⟩))
  case hsWaitS => exact Or.inl ⟨rfl, _, engineStep_hsWaitS h, fun u => ⟨_, Or.inl rfl⟩⟩
  case hsWaitA => exact Or.inl ⟨rfl, _, engineStep_hsWaitA h, fun u => ⟨_, Or.inr (Or.inl rfl)⟩⟩
  case txWaitA => exact Or.inl ⟨rfl, _, engineStep_txWaitA h, fun u => ⟨_, Or.inr (Or.inr rfl)⟩⟩
  case txWaitD => exact Or.inl ⟨rfl, _, engineStep_txWaitD h, fun u => ⟨_, Or.inl rfl⟩⟩
  case efWaitA1 => exact Or.inl ⟨rfl, _, engineStep_efWaitA1 h, fun u => ⟨_, Or.inl rfl⟩⟩
  case efWaitA2 => exact Or.inl ⟨rfl, _, engineStep_efWaitA2 h, fun u => ⟨_, Or.inl rfl⟩⟩
  case efWaitD => exact Or.inl ⟨rfl, _, engineStep_efWaitD h, fun u => ⟨_, Or.inl rfl⟩⟩
  case txFrame =>
    refine Or.inr (Or.inr (Or.inl ⟨rfl, s.snap.get s.txcnt, ?_⟩))
    rw [engineStep_txFrame h, frameStep]
    by_cases hc : s.txcnt = 767
    · exact ⟨_, 0, by rw [if_pos hc]⟩
    · refine ⟨.txFrame, s.txcnt + 1, ?_⟩
      rw [if_neg hc, ← h]
      rfl
  case hsK0 => exact Or.inr (Or.inr (Or.inl ⟨rfl, send_form s (engineStep_hsK0 h)⟩))
  case hsK1 => exact Or.inr (Or.inr (Or.inl ⟨rfl, send_form s (engineStep_hsK1 h)⟩))
  case hsG0 => exact Or.inr (Or.inr (Or.inl ⟨rfl, send_form s (engineStep_hsG0 h)⟩))
  case hsG1 => exact Or.inr (Or.inr (Or.inl ⟨rfl, send_form s (engineStep_hsG1 h)⟩))
  case txG0 => exact Or.inr (Or.inr (Or.inl ⟨rfl, send_form s (engineStep_txG0 h)⟩))
  case txG1 => exact Or.inr (Or.inr (Or.inl ⟨rfl, send_form s (engineStep_txG1 h)⟩))
  case efCmd => exact Or.inr (Or.inr (Or.inl ⟨rfl, send_form s (engineStep_efCmd h)⟩))
  case efVal => exact Or.inr (Or.inr (Or.inl ⟨rfl, send_form s (engineStep_efVal h)⟩))
  case dcQ0 => exact Or.inr (Or.inr (Or.inl ⟨rfl, send_form s (engineStep_dcQ0 h)⟩))
  case dcQ1 => exact Or.inr (Or.inr (Or.inl ⟨rfl, send_form s (engineStep_dcQ1 h)⟩))
  case fltZ => exact Or.inr (Or.inr (Or.inl ⟨rfl, send_form s (engineStep_fltZ h)⟩))
  case fltQ0 => exact Or.inr (Or.inr (Or.inl ⟨rfl, send_form s (engineStep_fltQ0 h)⟩))
  case fltQ1 => exact Or.inr (Or.inr (Or.inl ⟨rfl, send_form s (engineStep_fltQ1 h)⟩))

end Sys2Proof.Machine
end

