-- ==== Sys2Proof/Laws/Memory.lean ====
section
/-! SUPPORT. The laws of the Frame Buffer's memory: what a store reads back as and leaves alone, with
no condition on the memory, and that every memory operation keeps the canonical form. -/

namespace Sys2Proof.Machine

@[simp] theorem Memory.read_nil (a : Nat) : Memory.read [] a = 0 := rfl

theorem Memory.read_cons (k : Nat) (b : Byte) (m : Memory) (a : Nat) :
    Memory.read ((k, b) :: m) a = if k = a then b else Memory.read m a := rfl

/-- Nothing is listed at an erased address. -/
theorem Memory.read_erase_same (m : Memory) (a : Nat) : Memory.read (Memory.erase m a) a = 0 := by
  induction m with
  | nil => rfl
  | cons c m ih =>
    obtain ⟨k, b⟩ := c
    by_cases h : k = a
    · subst h; simpa [Memory.erase] using ih
    · simpa [Memory.erase, List.filter_cons, h, Memory.read_cons] using ih

/-- Erasing an address leaves every other one alone. -/
theorem Memory.read_erase_other (m : Memory) {a x : Nat} (h : x ≠ a) :
    Memory.read (Memory.erase m a) x = Memory.read m x := by
  induction m with
  | nil => rfl
  | cons c m ih =>
    obtain ⟨k, b⟩ := c
    by_cases hk : k = a
    · subst hk
      have hx : k ≠ x := fun e => h e.symm
      simpa [Memory.erase, Memory.read_cons, hx] using ih
    · by_cases hx : k = x
      · subst hx; simp [Memory.erase, hk, Memory.read_cons]
      · simpa [Memory.erase, List.filter_cons, hk, Memory.read_cons, hx] using ih

/-- A byte inserted at an address that reads 0 is read back there, and no other address changes. -/
theorem Memory.read_insert (m : Memory) (a : Nat) (b : Byte) (x : Nat) (h : ∀ c ∈ m, c.1 ≠ a) :
    Memory.read (Memory.insert m a b) x = if a = x then b else Memory.read m x := by
  induction m with
  | nil => simp [Memory.insert, Memory.read_cons]
  | cons c m ih =>
    obtain ⟨k, v⟩ := c
    have hk : k ≠ a := h (k, v) (by simp)
    have ih' := ih fun c hc => h c (by simp [hc])
    unfold Memory.insert
    split
    · simp [Memory.read_cons]
    · rw [Memory.read_cons, ih', Memory.read_cons]
      by_cases hx : k = x
      · subst hx; simp [Ne.symm hk]
      · simp [hx]

/-- The one law of a store: it reads back at its address, and every other address reads as before. -/
theorem Memory.read_write (m : Memory) (a : Nat) (b : Byte) (x : Nat) :
    Memory.read (Memory.write m a b) x = if a = x then b else Memory.read m x := by
  unfold Memory.write
  split
  · by_cases h : a = x
    · subst h; simp [Memory.read_erase_same, *]
    · simp [h, Memory.read_erase_other m (Ne.symm h)]
  · rw [Memory.read_insert]
    · by_cases h : a = x
      · simp [h]
      · simp [h, Memory.read_erase_other m (Ne.symm h)]
    · intro c hc
      have := (List.mem_filter.mp hc).2
      simpa using this

theorem Memory.read_write_same (m : Memory) (a : Nat) (b : Byte) : Memory.read (Memory.write m a b) a = b := by
  simp [Memory.read_write]

theorem Memory.read_write_other (m : Memory) {a x : Nat} (b : Byte) (h : a ≠ x) :
    Memory.read (Memory.write m a b) x = Memory.read m x := by
  simp [Memory.read_write, h]

/-! ### The canonical form -/

/-- What the canonical form says of a memory's first cell. -/
theorem Memory.wfFrom_cons (lo k : Nat) (b : Byte) (m : Memory) :
    Memory.wfFrom lo ((k, b) :: m) = true ↔
      lo ≤ k ∧ k < 0x400 ∧ b ≠ 0 ∧ (k % 4 = 3 → b = 1) ∧ Memory.wfFrom (k + 1) m = true := by
  simp only [Memory.wfFrom, Bool.and_eq_true, Bool.or_eq_true, decide_eq_true_eq, bne_iff_ne, ne_eq, beq_iff_eq, and_assoc]
  refine and_congr_right fun _ => and_congr_right fun _ => and_congr_right fun _ => and_congr_left fun _ => ?_
  constructor
  · rintro (h | h) h3
    · exact absurd h3 h
    · exact h
  · intro h
    by_cases h3 : k % 4 = 3
    · exact Or.inr (h h3)
    · exact Or.inl h3

/-- A lower bound on the addresses may be lowered. -/
theorem Memory.wfFrom_mono {lo lo' : Nat} (h : lo' ≤ lo) {m : Memory} (hm : Memory.wfFrom lo m = true) :
    Memory.wfFrom lo' m = true := by
  cases m with
  | nil => rfl
  | cons c m =>
    rw [Memory.wfFrom_cons] at hm ⊢
    exact ⟨h.trans hm.1, hm.2⟩

/-- Erasing keeps the canonical form. -/
theorem Memory.wfFrom_erase {lo : Nat} {m : Memory} (a : Nat) (hm : Memory.wfFrom lo m = true) :
    Memory.wfFrom lo (Memory.erase m a) = true := by
  induction m generalizing lo with
  | nil => rfl
  | cons c m ih =>
    obtain ⟨k, b⟩ := c
    rw [Memory.wfFrom_cons] at hm
    have hrest := ih hm.2.2.2.2
    by_cases h : k = a
    · subst h
      simpa [Memory.erase] using Memory.wfFrom_mono (hm.1.trans (Nat.le_succ k)) hrest
    · have : Memory.erase ((k, b) :: m) a = (k, b) :: Memory.erase m a := by simp [Memory.erase, h]
      rw [this, Memory.wfFrom_cons]
      exact ⟨hm.1, hm.2.1, hm.2.2.1, hm.2.2.2.1, hrest⟩

/-- Inserting a byte that may be listed, where nothing is listed, keeps the canonical form. -/
theorem Memory.wfFrom_insert {lo : Nat} {m : Memory} {a : Nat} {b : Byte} (hm : Memory.wfFrom lo m = true)
    (hlo : lo ≤ a) (ha : a < 0x400) (hb : b ≠ 0) (hv : a % 4 = 3 → b = 1) (hfree : ∀ c ∈ m, c.1 ≠ a) :
    Memory.wfFrom lo (Memory.insert m a b) = true := by
  induction m generalizing lo with
  | nil => exact (Memory.wfFrom_cons lo a b []).mpr ⟨hlo, ha, hb, hv, rfl⟩
  | cons c m ih =>
    obtain ⟨k, v⟩ := c
    have hk : k ≠ a := hfree (k, v) (by simp)
    rw [Memory.wfFrom_cons] at hm
    unfold Memory.insert
    split
    · rename_i hak
      rw [Memory.wfFrom_cons, Memory.wfFrom_cons]
      exact ⟨hlo, ha, hb, hv, hak, hm.2⟩
    · rw [Memory.wfFrom_cons]
      exact ⟨hm.1, hm.2.1, hm.2.2.1, hm.2.2.2.1,
        ih hm.2.2.2.2 (by omega) fun c hc => hfree c (by simp [hc])⟩

/-- Every store of a byte that its lane may hold keeps the canonical form. -/
theorem Memory.wf_write {m : Memory} (a : Nat) (b : Byte) (hm : m.wf = true) (ha : a < 0x400)
    (hv : a % 4 = 3 → b = 0 ∨ b = 1) : (Memory.write m a b).wf = true := by
  have he := Memory.wfFrom_erase a hm
  unfold Memory.write
  split
  · exact he
  · rename_i hb
    refine Memory.wfFrom_insert he (Nat.zero_le _) ha hb (fun h => (hv h).resolve_left hb) ?_
    intro c hc
    simpa using (List.mem_filter.mp hc).2

/-! ### Pixels -/

/-- Lane k of FB[p] after a pixel is written to FB[q]. -/
theorem Memory.read_writePixel (m : Memory) (q : Nat) (x : Rgb) (a : Nat) :
    Memory.read (m.writePixel q x) a =
      if a = fbLane q 3 then 1 else if a = fbLane q 2 then x.r else if a = fbLane q 1 then x.g
      else if a = fbLane q 0 then x.b else Memory.read m a := by
  simp only [Memory.writePixel, Memory.read_write, eq_comm (a := a)]

/-- A written pixel is valid and holds its channels. -/
@[simp] theorem Memory.valid_writePixel_same (m : Memory) (p : Nat) (x : Rgb) : (m.writePixel p x).valid p = true := by
  simp [Memory.valid, Memory.read_writePixel]

@[simp] theorem Memory.rgb_writePixel_same (m : Memory) (p : Nat) (x : Rgb) : (m.writePixel p x).rgb p = x := by
  simp [Memory.rgb, Memory.read_writePixel, fbLane]

/-- A write to FB[q] leaves every other pixel alone. -/
theorem Memory.writePixel_other (m : Memory) {p q : Nat} (x : Rgb) (h : p ≠ q) :
    (m.writePixel q x).valid p = m.valid p ∧ (m.writePixel q x).rgb p = m.rgb p := by
  have far : ∀ j < 4, ∀ k < 4, fbLane p j ≠ fbLane q k := by
    intro j hj k hk; unfold fbLane; omega
  constructor
  · simp [Memory.valid, Memory.read_writePixel, far 3 (by omega) 3 (by omega), far 3 (by omega) 2 (by omega),
      far 3 (by omega) 1 (by omega), far 3 (by omega) 0 (by omega)]
  · simp [Memory.rgb, Memory.read_writePixel, far 2 (by omega), far 1 (by omega), far 0 (by omega)]

/-- A pixel write keeps the canonical form. -/
theorem Memory.wf_writePixel {m : Memory} {p : Nat} (x : Rgb) (hm : m.wf = true) (hp : p < 256) :
    (m.writePixel p x).wf = true := by
  unfold Memory.writePixel fbLane
  refine Memory.wf_write _ _ (Memory.wf_write _ _ (Memory.wf_write _ _ (Memory.wf_write _ _ hm ?_ ?_) ?_ ?_) ?_ ?_) ?_ ?_ <;>
    first
      | omega
      | (intro h; exact Or.inr rfl)

/-- Every entry is valid exactly when each of the 256 is. -/
theorem Memory.allValid_iff (m : Memory) : m.allValid = true ↔ ∀ p < 256, m.valid p = true := by
  simp only [Memory.allValid, List.all_eq_true, List.mem_range]

end Sys2Proof.Machine
end

