-- ==== Sys2Proof/Laws/PerInstr.lean ====
section
/-! SUPPORT. The family of facts made per instruction. `EncodeFormat`: the format of each encoding
(R80): a producer operation encodes to a transaction word, a host-to-device token to the bytes of its
variant, with the length R91 gives a well-formed one, a device-to-host token to one delivered byte. -/

open Sys2Proof Sys2Proof.Machine

/-- The format of an instruction's encoding (R80, R91, R92). -/
def Sys2Proof.Laws.EncodeFormat.Statement (i : Instr) : Prop :=
  match encode i with
  | .agent (.producer _) => isProducerOp i = true
  | .agent (.device b) => tokenVariant i = none ∧ isProducerOp i = false ∧ decodeDevice b = some i
  | .agent .engine => False
  | .agent .timer => False
  | .agent .rst => False
  | .token v bytes => tokenVariant i = some v ∧
      (i.wf = true → bytes.length = 1 ∨ bytes.length = 2 ∨ bytes.length = 768)

theorem Sys2Proof.Laws.EncodeFormat.busErr (w : Bool) (addr : Addr) (wdata : Data) :
    Sys2Proof.Laws.EncodeFormat.Statement (.busErr w addr wdata) := rfl

theorem Sys2Proof.Laws.EncodeFormat.wrpx (p r g b : Byte) :
    Sys2Proof.Laws.EncodeFormat.Statement (.wrpx p r g b) := rfl

theorem Sys2Proof.Laws.EncodeFormat.rdpx (p : Byte) : Sys2Proof.Laws.EncodeFormat.Statement (.rdpx p) := rfl

theorem Sys2Proof.Laws.EncodeFormat.setReady : Sys2Proof.Laws.EncodeFormat.Statement .setReady := rfl

theorem Sys2Proof.Laws.EncodeFormat.clearReady : Sys2Proof.Laws.EncodeFormat.Statement .clearReady := rfl

theorem Sys2Proof.Laws.EncodeFormat.connect : Sys2Proof.Laws.EncodeFormat.Statement .connect := rfl

theorem Sys2Proof.Laws.EncodeFormat.disconnect : Sys2Proof.Laws.EncodeFormat.Statement .disconnect := rfl

theorem Sys2Proof.Laws.EncodeFormat.effect (code : Byte) (hasval : Bool) (val : Byte) :
    Sys2Proof.Laws.EncodeFormat.Statement (.effect code hasval val) := rfl

theorem Sys2Proof.Laws.EncodeFormat.cmdIllegal (op : Byte) :
    Sys2Proof.Laws.EncodeFormat.Statement (.cmdIllegal op) := rfl

theorem Sys2Proof.Laws.EncodeFormat.rdcmd : Sys2Proof.Laws.EncodeFormat.Statement .rdcmd := rfl

theorem Sys2Proof.Laws.EncodeFormat.rdstatus : Sys2Proof.Laws.EncodeFormat.Statement .rdstatus := rfl

theorem Sys2Proof.Laws.EncodeFormat.wrconfig (v : Variant) :
    Sys2Proof.Laws.EncodeFormat.Statement (.wrconfig v) := rfl

theorem Sys2Proof.Laws.EncodeFormat.rdconfig : Sys2Proof.Laws.EncodeFormat.Statement .rdconfig := rfl

theorem Sys2Proof.Laws.EncodeFormat.rdfault : Sys2Proof.Laws.EncodeFormat.Statement .rdfault := rfl

theorem Sys2Proof.Laws.EncodeFormat.tokGoSerial : Sys2Proof.Laws.EncodeFormat.Statement .tokGoSerial := ⟨rfl, fun _ => Or.inl rfl⟩

theorem Sys2Proof.Laws.EncodeFormat.tokBright (val : Option Byte) :
    Sys2Proof.Laws.EncodeFormat.Statement (.tokBright val) := by
  cases val
  · exact ⟨rfl, fun _ => Or.inl rfl⟩
  · exact ⟨rfl, fun _ => Or.inr (Or.inl rfl)⟩

theorem Sys2Proof.Laws.EncodeFormat.tokTest (val : Option Byte) :
    Sys2Proof.Laws.EncodeFormat.Statement (.tokTest val) := by
  cases val
  · exact ⟨rfl, fun _ => Or.inl rfl⟩
  · exact ⟨rfl, fun _ => Or.inr (Or.inl rfl)⟩

theorem Sys2Proof.Laws.EncodeFormat.tokBlank : Sys2Proof.Laws.EncodeFormat.Statement .tokBlank := ⟨rfl, fun _ => Or.inl rfl⟩

theorem Sys2Proof.Laws.EncodeFormat.tokFrameSerial (payload : List Byte) :
    Sys2Proof.Laws.EncodeFormat.Statement (.tokFrameSerial payload) :=
  ⟨rfl, fun h => Or.inr (Or.inr (by simpa [Instr.wf, isFrame] using h))⟩

theorem Sys2Proof.Laws.EncodeFormat.tokKeepalive : Sys2Proof.Laws.EncodeFormat.Statement .tokKeepalive := ⟨rfl, fun _ => Or.inr (Or.inl rfl)⟩

theorem Sys2Proof.Laws.EncodeFormat.tokGoSocket : Sys2Proof.Laws.EncodeFormat.Statement .tokGoSocket := ⟨rfl, fun _ => Or.inr (Or.inl rfl)⟩

theorem Sys2Proof.Laws.EncodeFormat.tokQuit : Sys2Proof.Laws.EncodeFormat.Statement .tokQuit := ⟨rfl, fun _ => Or.inr (Or.inl rfl)⟩

theorem Sys2Proof.Laws.EncodeFormat.tokFrameSocket (payload : List Byte) :
    Sys2Proof.Laws.EncodeFormat.Statement (.tokFrameSocket payload) := by
  refine ⟨rfl, fun h => Or.inr (Or.inr ?_)⟩
  simp only [Instr.wf, Bool.and_eq_true] at h
  simpa [isFrame] using h.1

theorem Sys2Proof.Laws.EncodeFormat.tokS : Sys2Proof.Laws.EncodeFormat.Statement .tokS := ⟨rfl, rfl, rfl⟩

theorem Sys2Proof.Laws.EncodeFormat.tokA : Sys2Proof.Laws.EncodeFormat.Statement .tokA := ⟨rfl, rfl, rfl⟩

theorem Sys2Proof.Laws.EncodeFormat.tokE : Sys2Proof.Laws.EncodeFormat.Statement .tokE := ⟨rfl, rfl, rfl⟩

theorem Sys2Proof.Laws.EncodeFormat.tokD : Sys2Proof.Laws.EncodeFormat.Statement .tokD := ⟨rfl, rfl, rfl⟩
end

