-- ==== Sys2Proof/Laws/Step.lean ====
section
/-! SUPPORT. What one step of the machine can be, said once: the inversion of `step` by agent, the
shape of a token's meaning, and what every producer operation leaves alone. -/

namespace Sys2Proof.Machine

/-- A host-to-device token's meaning is an emission guarded by a phase of its list (R91). -/
theorem exec_token {i : Instr} {v : Variant} (s : State) (h : tokenVariant i = some v) :
    ∃ c : Bool, exec i s = .next (if c then engineStep s else s) ∧ (c = true → s.phase ∈ emittedIn i) := by
  cases i <;> simp only [tokenVariant, reduceCtorEq] at h <;>
    refine ⟨_, rfl, fun hc => ?_⟩ <;>
    simp only [State.emitsEffect, State.emitsFrame, Bool.and_eq_true, Bool.or_eq_true, beq_iff_eq] at hc <;>
    simp only [emittedIn, List.mem_cons, List.not_mem_nil, or_false] <;>
    tauto

/-- The phases of R91's last column are SEND phases. -/
theorem isSend_of_mem_emittedIn {i : Instr} {p : Phase} (h : p ∈ emittedIn i) : p.isSend = true := by
  cases i <;> simp only [emittedIn, List.mem_cons, List.not_mem_nil, or_false] at h <;>
    rcases h with rfl | rfl | rfl | rfl <;> rfl

/-- Bytes that spell a token in the serial variant decode to a serial token (R91). -/
theorem decodeSerialToken_variant {bytes : List Byte} {i : Instr} (h : decodeSerialToken bytes = some i) :
    tokenVariant i = some .serial := by
  unfold decodeSerialToken at h
  split at h
  · repeat' split at h
    all_goals cases h <;> rfl
  · repeat' split at h
    all_goals cases h <;> rfl
  · split at h
    · cases h; rfl
    · cases h

/-- Bytes that spell a token in the socket variant decode to a socket token (R91). -/
theorem decodeSocketToken_variant {bytes : List Byte} {i : Instr} (h : decodeSocketToken bytes = some i) :
    tokenVariant i = some .socket := by
  unfold decodeSocketToken at h
  split at h
  · repeat' split at h
    all_goals cases h <;> rfl
  · split at h
    · cases h; rfl
    · cases h

/-- Bytes that spell a token in a variant decode to a token of that variant (R91). -/
theorem decodeToken_variant {v : Variant} {bytes : List Byte} {i : Instr} (h : decodeToken v bytes = some i) :
    tokenVariant i = some v := by
  cases v
  · exact decodeSerialToken_variant h
  · exact decodeSocketToken_variant h

/-- A device-to-host token is the delivery of its byte (R92, R210). -/
theorem exec_device {b : Byte} {i : Instr} (s : State) (h : decodeDevice b = some i) :
    exec i s = .next (deliver s b) := by
  unfold decodeDevice at h
  repeat' split at h
  all_goals cases h <;> (subst b; rfl)

/-- Whatever byte the Device delivers, the step is the delivery (R210). -/
theorem runEvent_device (b : Byte) (s : State) : runEvent (.agent (.device b)) s = .next (deliver s b) := by
  cases h : decodeDevice b with
  | none => simp only [runEvent, h]
  | some i => simp only [runEvent, h, exec_device s h]

/-- A write to CMD is a producer operation (R83). -/
theorem isProducerOp_decodeCmd (d : Data) : isProducerOp (decodeCmd d) = true := by
  simp only [decodeCmd]
  repeat' split
  all_goals rfl

/-- What decodes from a transaction word is a producer operation (R87). -/
theorem isProducerOp_decodeBus (t : BusWord) : isProducerOp (decodeBus t) = true := by
  unfold decodeBus decodeTransaction
  repeat' split
  all_goals first | rfl | exact isProducerOp_decodeCmd _

/-- What one step can be: a producer operation, an Engine step, a token entry that is held or is an
Engine step in a SEND phase, a delivery, a timeout, or reset. -/
theorem step_cases {s t : State} (h : step s = .next t) :
    (∃ w, s.nextEvent = .agent (.producer w) ∧ exec (decodeBus w) s.afterFetch = .next t) ∨
    (s.nextEvent = .agent .engine ∧ t = engineStep s.afterFetch) ∨
    (∃ v bytes, s.nextEvent = .token v bytes ∧
      (t = s.afterFetch ∨ (s.phase.isSend = true ∧ t = engineStep s.afterFetch))) ∨
    (∃ b, s.nextEvent = .agent (.device b) ∧ t = deliver s.afterFetch b) ∨
    (s.nextEvent = .agent .timer ∧ t = timeoutStep s.afterFetch) ∨
    (s.nextEvent = .agent .rst ∧ t = s.afterFetch.resetBlock) := by
  unfold step at h
  cases he : s.nextEvent with
  | agent a =>
    rw [he] at h
    cases a with
    | producer w => exact Or.inl ⟨w, rfl, h⟩
    | engine => exact Or.inr (Or.inl ⟨rfl, by injection h with h; exact h.symm⟩)
    | device b =>
      rw [runEvent_device] at h
      exact Or.inr (Or.inr (Or.inr (Or.inl ⟨b, rfl, by injection h with h; exact h.symm⟩)))
    | timer => exact Or.inr (Or.inr (Or.inr (Or.inr (Or.inl ⟨rfl, by injection h with h; exact h.symm⟩))))
    | rst => exact Or.inr (Or.inr (Or.inr (Or.inr (Or.inr ⟨rfl, by injection h with h; exact h.symm⟩))))
  | token v bytes =>
    rw [he] at h
    refine Or.inr (Or.inr (Or.inl ⟨v, bytes, rfl, ?_⟩))
    unfold runEvent at h
    cases hd : decodeToken v bytes with
    | none => simp [hd] at h
    | some i =>
      simp only [hd] at h
      obtain ⟨c, hc, hp⟩ := exec_token s.afterFetch (decodeToken_variant hd)
      rw [hc] at h
      injection h with h
      cases c
      · exact Or.inl (by simpa using h.symm)
      · refine Or.inr ⟨?_, by simpa using h.symm⟩
        have := isSend_of_mem_emittedIn (hp rfl)
        simpa using this

/-- m + n steps are m steps and then n. -/
theorem stepsFrom_add {s t : State} (m n : Nat) (h : stepsFrom m s = some t) : stepsFrom (m + n) s = stepsFrom n t := by
  induction m generalizing s with
  | zero =>
    simp only [stepsFrom, Option.some.injEq] at h
    rw [h, Nat.zero_add]
  | succ m ih =>
    rw [Nat.add_right_comm]
    simp only [stepsFrom] at h ⊢
    cases hs : step s with
    | next s' => rw [hs] at h; exact ih h
    | fault r => rw [hs] at h; cases h
    | refused r => rw [hs] at h; cases h

/-- One step. -/
theorem stepsFrom_one {s t : State} (h : step s = .next t) : stepsFrom 1 s = some t := by
  simp only [stepsFrom, h]

/-- The step a non-empty agenda names. -/
theorem step_of_agenda {s : State} {e : Event} {rest : List Event} (h : s.agenda = e :: rest) :
    step s = runEvent e { s with agenda := rest } := by
  simp only [step, State.nextEvent, State.afterFetch, h]

/-- What no producer operation writes: SNAP, the fault registers, TXCNT, the TX stream, the parameters
and the agenda (spec/41_producer_ops.md, R180, R182, R183). -/
theorem exec_producer_frame {i : Instr} {s t : State} (hi : isProducerOp i = true) (h : exec i s = .next t) :
    t.snap = s.snap ∧ t.fatal = s.fatal ∧ t.cause = s.cause ∧ t.faultByte = s.faultByte ∧
      t.faultPhase = s.faultPhase ∧ t.txcnt = s.txcnt ∧ t.tx = s.tx ∧ t.rxFifoDepth = s.rxFifoDepth ∧
      t.busySetPolicy = s.busySetPolicy ∧ t.agenda = s.agenda := by
  cases i <;> first | exact absurd hi Bool.false_ne_true | skip
  all_goals
    injection h with h
    subst h
    repeat' split
    all_goals exact ⟨rfl, rfl, rfl, rfl, rfl, rfl, rfl, rfl, rfl, rfl⟩

/-- Every producer operation answers a next state (R140). -/
theorem exec_producer_next {i : Instr} (s : State) (hi : isProducerOp i = true) : ∃ t, exec i s = .next t := by
  cases i <;> first | exact absurd hi Bool.false_ne_true | exact ⟨_, rfl⟩

end Sys2Proof.Machine
end

