-- ==== Sys2Proof/Tests/Slice0.lean ====
section
/-! SUPPORT. Tests. Every expected value is from the spec: the encodings of spec/30_encoding.md R83,
R91, R92 and R94, and the vectors of spec/95_test_vectors.md, whose numbers the comments give. Then
one witness for each statement that has hypotheses. -/

namespace Sys2Proof.Tests

open Sys2Proof.Machine

/-! ### What WellFormed refuses -/

theorem test_wf_refuses_busErr_of_a_selected_register : (Instr.busErr true 0x408 1).wf = false := by decide
theorem test_wf_refuses_busErr_of_an_aligned_pixel : (Instr.busErr false 0x3FC 0).wf = false := by decide
theorem test_wf_refuses_cmdIllegal_of_setReady : (Instr.cmdIllegal 0x01).wf = false := by decide
theorem test_wf_refuses_cmdIllegal_of_clearReady : (Instr.cmdIllegal 0x02).wf = false := by decide
theorem test_wf_refuses_cmdIllegal_of_connect : (Instr.cmdIllegal 0x03).wf = false := by decide
theorem test_wf_refuses_cmdIllegal_of_disconnect : (Instr.cmdIllegal 0x04).wf = false := by decide
theorem test_wf_refuses_cmdIllegal_of_effect : (Instr.cmdIllegal 0x05).wf = false := by decide
theorem test_wf_refuses_short_serial_frame : (Instr.tokFrameSerial [0, 1, 2]).wf = false := by decide
theorem test_wf_refuses_short_socket_frame : (Instr.tokFrameSocket [1, 2, 3]).wf = false := by decide
theorem test_wf_refuses_socket_frame_with_zero_byte :
    (Instr.tokFrameSocket (0 :: List.replicate 767 1)).wf = false := by decide +kernel

/-! ### Words written out from the encodings decode to what they stand for

W, then addr[11:0], then wdata[31:0]. -/

/-- What a transaction word decodes to. -/
def bus (w : BusWord) : Except DecodeError Instr := decode (.agent (.producer w))

theorem test_decode_busErr_misaligned :
    bus 0b0_010000000001_00000000000000000000000000000000 = .ok (.busErr false 0x401 0) := by rfl
theorem test_decode_busErr_unmapped :
    bus 0b1_111111111100_00010010001101000101011001111000 = .ok (.busErr true 0xFFC 0x12345678) := by rfl
theorem test_decode_wrpx :
    bus 0b1_000001000100_10101011111111110000000100000010 = .ok (.wrpx 17 255 1 2) := by rfl
theorem test_decode_rdpx : bus 0b0_001111111100_00000000000000000000000000000000 = .ok (.rdpx 255) := by rfl
theorem test_decode_setReady : bus 0b1_010000000000_00000001111111111111111111111111 = .ok .setReady := by rfl
theorem test_decode_clearReady : bus 0b1_010000000000_00000010000000000000000000000000 = .ok .clearReady := by rfl
theorem test_decode_connect : bus 0b1_010000000000_00000011000000000000000000000000 = .ok .connect := by rfl
theorem test_decode_disconnect : bus 0b1_010000000000_00000100000000000000000000000000 = .ok .disconnect := by rfl
theorem test_decode_effect :
    bus 0b1_010000000000_00000101010000100000000110000000 = .ok (.effect 0x42 true 0x80) := by rfl
theorem test_decode_effect_without_value :
    bus 0b1_010000000000_00000101010101000000000000000000 = .ok (.effect 0x54 false 0x00) := by rfl
theorem test_decode_cmdIllegal_low :
    bus 0b1_010000000000_00000000000000000000000000000000 = .ok (.cmdIllegal 0x00) := by rfl
theorem test_decode_cmdIllegal_high :
    bus 0b1_010000000000_11111111000000000000000000000000 = .ok (.cmdIllegal 0xFF) := by rfl
theorem test_decode_rdcmd : bus 0b0_010000000000_00000000000000000000000000000000 = .ok .rdcmd := by rfl
theorem test_decode_rdstatus : bus 0b0_010000000100_00000000000000000000000000000000 = .ok .rdstatus := by rfl
theorem test_decode_wrconfig_socket :
    bus 0b1_010000001000_00000000000000000000000000000001 = .ok (.wrconfig .socket) := by rfl
theorem test_decode_wrconfig_serial :
    bus 0b1_010000001000_11111111111111111111111111111110 = .ok (.wrconfig .serial) := by rfl
theorem test_decode_rdconfig : bus 0b0_010000001000_00000000000000000000000000000000 = .ok .rdconfig := by rfl
theorem test_decode_rdfault : bus 0b0_010000001100_00000000000000000000000000000000 = .ok .rdfault := by rfl
theorem test_decode_tokGoSerial : decode (.token .serial [0b01000111]) = .ok .tokGoSerial := by rfl
theorem test_decode_tokBright : decode (.token .serial [0b01000010, 0b10000000]) = .ok (.tokBright (some 128)) := by rfl
theorem test_decode_tokTest : decode (.token .serial [0b01010100]) = .ok (.tokTest none) := by rfl
theorem test_decode_tokBlank : decode (.token .serial [0b01011010]) = .ok .tokBlank := by rfl
theorem test_decode_tokKeepalive : decode (.token .socket [0b00000000, 0b01001011]) = .ok .tokKeepalive := by rfl
theorem test_decode_tokGoSocket : decode (.token .socket [0b00000000, 0b01000111]) = .ok .tokGoSocket := by rfl
theorem test_decode_tokQuit : decode (.token .socket [0b00000000, 0b01010001]) = .ok .tokQuit := by rfl
theorem test_decode_tokS : decode (.agent (.device 0b01010011)) = .ok .tokS := by rfl
theorem test_decode_tokA : decode (.agent (.device 0b01000001)) = .ok .tokA := by rfl
theorem test_decode_tokE : decode (.agent (.device 0b01000101)) = .ok .tokE := by rfl
theorem test_decode_tokD : decode (.agent (.device 0b01000100)) = .ok .tokD := by rfl
theorem test_decode_tokFrameSerial :
    decode (.token .serial (List.replicate 768 0)) = .ok (.tokFrameSerial (List.replicate 768 0)) := by decide +kernel
theorem test_decode_tokFrameSocket :
    decode (.token .socket (List.replicate 768 1)) = .ok (.tokFrameSocket (List.replicate 768 1)) := by decide +kernel
theorem test_decode_refuses_frame_of_767_bytes :
    decode (.token .serial (List.replicate 767 0)) = .error .notAToken := by decide +kernel
theorem test_decode_refuses_zero_byte_in_socket_frame :
    decode (.token .socket (0 :: List.replicate 767 1)) = .error .notAToken := by decide +kernel

/-! ### One step of each instruction -/

/-- The state of PHASE = p in variant v with q queued, CONN and FATAL as that phase has them. -/
def inPhase (p : Phase) (v : Variant) (q : List Byte) : State :=
  { State.reset with phase := p, variant := v, rxFifo := q, conn := p.isConnected, fatal := p.isFatal }

/-- The state after one step that takes the entry e; none where the step stops. -/
def after (s : State) (e : Event) : Option State :=
  match step (s.withEvent e) with
  | .next t => some t
  | .fault _ => none
  | .refused _ => none

/-- The answer of a producer transaction. -/
def answer (s : State) (w : Bool) (addr : Addr) (wdata : Data) : Option BusResponse :=
  (after s (busEvent w addr wdata)).bind (·.busResp)

/-- STATUS after one step. -/
def statusAfter (s : State) (e : Event) : Option Data := (after s e).map (·.statusWord)

/-- A memory in which every pixel is set and black. -/
def allSet : Memory := (List.range 256).map fun p => (4 * p + 3, 1)

-- V-BUS-10, V-BUS-11
theorem test_busErr_read : answer State.reset false 0x401 0 = some { err := true, rdata := 0 } := by rfl
theorem test_busErr_write_keeps_cmderr :
    (after { State.reset with cmdErr := .rejState } (busEvent true 0x402 0x12345678)).map (·.cmdErr) = some .rejState := by rfl
-- V-BUS-1, V-BUS-3
theorem test_wrpx : (after State.reset (busEvent true 0x044 0x00FF0000)).map (fun t => (t.fb.valid 17, t.fb.rgb 17)) =
    some (true, { r := 255, g := 0, b := 0 }) := by rfl
theorem test_wrpx_ignores_high_byte :
    (after State.reset (busEvent true 0x044 0xAB00FF00)).map (·.fb) = some [(69, 255), (71, 1)] := by rfl
-- V-BUS-5, V-BUS-4
theorem test_rdpx : answer { State.reset with fb := [(1020, 3), (1021, 2), (1022, 1), (1023, 1)] } false 0x3FC 0 =
    some { err := false, rdata := 0x01010203 } := by rfl
theorem test_rdpx_of_unset_pixel_goes_on :
    (after State.reset (busEvent false 0x3FC 0)).map (fun t => (t.fb, t.phase, t.cmdErr)) = some ([], .disc, .ok) := by rfl
-- V-BUS-22, V-FLAG-6
theorem test_setReady : statusAfter State.reset (busEvent true 0x400 0x01FFFFFF) = some 0x00000001 := by rfl
theorem test_setReady_dropped :
    statusAfter { inPhase .txFrame .serial [] with busySetPolicy := .drop } (busEvent true 0x400 0x01000000) =
      some 0x000002FA := by rfl
-- V-FLAG-3
theorem test_clearReady :
    statusAfter { inPhase .idle .serial [] with ready := true } (busEvent true 0x400 0x02000000) = some 0x000001D2 := by rfl
-- V-HS-1, V-F-13
theorem test_connect : statusAfter State.reset (busEvent true 0x400 0x03000000) = some 0x005300E8 := by rfl
theorem test_connect_after_fatal :
    statusAfter (inPhase .halt .serial []) (busEvent true 0x400 0x03000000) = some 0x020005C4 := by rfl
-- V-DC-2, V-DC-4
theorem test_disconnect : statusAfter (inPhase .idle .socket []) (busEvent true 0x400 0x04000000) = some 0x00000488 := by rfl
theorem test_disconnect_busy :
    statusAfter (inPhase .txG1 .serial []) (busEvent true 0x400 0x04000000) = some 0x0100027A := by rfl
-- V-EF-1, V-EF-14
theorem test_effect : statusAfter (inPhase .idle .serial []) (busEvent true 0x400 0x05420180) = some 0x0000037A := by rfl
theorem test_effect_in_socket :
    (after (inPhase .disc .socket []) (busEvent true 0x400 0x05420180)).map (·.cmdErr.code) = some 4 := by rfl
-- V-BUS-19
theorem test_cmdIllegal : statusAfter State.reset (busEvent true 0x400 0x00000000) = some 0x03000000 := by rfl
-- V-BUS-9
theorem test_rdcmd : answer State.reset false 0x400 0 = some { err := false, rdata := 0 } := by rfl
-- V-HS-3
theorem test_rdstatus : answer (inPhase .hsWaitA .serial []) false 0x404 0 = some { err := false, rdata := 0x004101A8 } := by rfl
-- V-BUS-16, V-BUS-18
theorem test_wrconfig :
    (after { State.reset with cmdErr := .rejIllegal } (busEvent true 0x408 0x00000001)).map (fun t => (t.variant, t.cmdErr)) =
      some (.socket, .ok) := by rfl
theorem test_wrconfig_in_idle :
    (after (inPhase .idle .serial []) (busEvent true 0x408 0x00000001)).map (fun t => (t.variant, t.cmdErr.code)) =
      some (.serial, 5) := by rfl
-- V-BUS-7, program 2
theorem test_rdconfig : answer (inPhase .disc .socket []) false 0x408 0 = some { err := false, rdata := 1 } := by rfl
-- Program 3
theorem test_rdfault :
    answer { inPhase .halt .serial [] with cause := .deviceError, faultByte := 0x45, faultPhase := .txWaitA } false 0x40C 0 =
      some { err := false, rdata := 0x000A4502 } := by rfl
-- V-HS-3, V-CYC-3
theorem test_tokGoSerial : statusAfter (inPhase .hsG1 .serial []) (.token .serial [0x47]) = some 0x004101A8 := by rfl
theorem test_tokGoSerial_of_a_cycle :
    (after (inPhase .txG1 .serial []) (.token .serial [0x47])).map (fun t => (t.statusWord, t.tx)) =
      some (0x004102AA, [0x47]) := by rfl
-- V-EF-2, V-EF-4
theorem test_tokBright_code :
    statusAfter { inPhase .efCmd .serial [] with efCode := 0x42, efHasVal := true, efVal := 0x80 } (.token .serial [0x42, 0x80]) =
      some 0x004103AA := by rfl
theorem test_tokBright_value :
    (after { inPhase .efVal .serial [] with efCode := 0x42, efHasVal := true, efVal := 0x80 } (.token .serial [0x42, 0x80])).map
      (fun t => (t.statusWord, t.tx)) = some (0x0041042A, [0x80]) := by rfl
-- V-EF-7
theorem test_tokTest :
    (after { inPhase .efCmd .serial [] with efCode := 0x54 } (.token .serial [0x54])).map (fun t => (t.statusWord, t.tx)) =
      some (0x004103AA, [0x54]) := by rfl
-- V-EF-8, V-F-5
theorem test_tokBlank_effect :
    (after { inPhase .efCmd .serial [] with efCode := 0x5A } (.token .serial [0x5A])).map (fun t => (t.statusWord, t.tx)) =
      some (0x000001D2, [0x5A]) := by rfl
theorem test_tokBlank_fatal :
    (after (inPhase .fltZ .serial []) (.token .serial [0x5A])).map (fun t => (t.statusWord, t.tx)) =
      some (0x000005C4, [0x5A]) := by rfl
-- V-CYC-5, the last of the 768 steps
theorem test_tokFrameSerial_last_byte :
    (after { inPhase .txFrame .serial [] with txcnt := 767 } (.token .serial (List.replicate 768 0))).map
      (fun t => (t.statusWord, t.tx)) = some (0x000001D2, [0x00]) := by decide +kernel
-- V-HS-6
theorem test_tokKeepalive_last_byte :
    (after (inPhase .hsK1 .socket []) (.token .socket [0x00, 0x4B])).map (fun t => (t.statusWord, t.tx)) =
      some (0x005300E8, [0x4B]) := by rfl
-- R185, R191: the first byte of a socket Go
theorem test_tokGoSocket_first_byte :
    (after (inPhase .txG0 .socket []) (.token .socket [0x00, 0x47])).map (fun t => (t.phase, t.tx)) = some (.txG1, [0x00]) := by rfl
-- V-DC-2, V-F-10
theorem test_tokQuit : (after (inPhase .dcQ1 .socket []) (.token .socket [0x00, 0x51])).map (fun t => (t.statusWord, t.tx)) =
    some (0x00000000, [0x51]) := by rfl
theorem test_tokQuit_fatal :
    (after (inPhase .fltQ1 .socket []) (.token .socket [0x00, 0x51])).map (fun t => (t.statusWord, t.tx)) =
      some (0x000005C4, [0x51]) := by rfl
-- V-CYC-6, the last of the 768 steps
theorem test_tokFrameSocket_last_byte :
    (after { inPhase .txFrame .socket [] with txcnt := 767, snap := Vector.replicate 768 1 }
      (.token .socket (List.replicate 768 1))).map (fun t => (t.statusWord, t.tx)) = some (0x0044032A, [0x01]) := by decide +kernel
-- R210: queued in a WAIT phase; V-HS-9: discarded in DISC
theorem test_tokS : (after (inPhase .hsWaitS .serial []) (.agent (.device 0x53))).map (·.rxFifo) = some [0x53] := by rfl
theorem test_tokS_discarded : (after State.reset (.agent (.device 0x53))).map (·.rxFifo) = some [] := by rfl
-- V-F-10, the 17th byte
theorem test_tokA_overflow :
    (after (inPhase .idle .socket (List.replicate 16 0x41)) (.agent (.device 0x41))).map
      (fun t => (t.faultWord, t.phase, t.rxFifo)) = some (0x00070005, .fltQ0, []) := by rfl
theorem test_tokE : (after (inPhase .idle .serial [0x41]) (.agent (.device 0x45))).map (·.rxFifo) = some [0x41, 0x45] := by rfl
theorem test_tokD : (after (inPhase .efWaitD .serial []) (.agent (.device 0x44))).map (·.rxFifo) = some [0x44] := by rfl

/-! ### One step of each agent -/

/-- An Engine step. -/
def eng : Event := .agent .engine

/-- IDLE with the flag set and every pixel set. -/
def readyToSend (v : Variant) : State := { inPhase .idle v [] with ready := true, fb := allSet }

theorem read_of_listed_pixel {q : Nat} {l : List Nat} (h : q ∈ l) : Memory.read (l.map fun p => (4 * p + 3, 1)) (4 * q + 3) = 1 := by
  induction l with
  | nil => cases h
  | cons p l ih =>
    rw [List.map_cons, Memory.read_cons]
    split
    · rfl
    · rename_i hne
      refine ih ((List.mem_cons.mp h).resolve_left fun he => hne (by rw [he]))

theorem allSet_valid : ∀ p < 256, allSet.valid p = true := fun p hp => by
  unfold Memory.valid allSet fbLane
  rw [read_of_listed_pixel (List.mem_range.mpr hp)]
  rfl

/-- That state after the consume step. -/
def consumed (v : Variant) : State :=
  { readyToSend v with
    ready := false, snap := encodeFrame v allSet.rgb, phase := if v = .socket then .txG0 else .txG1 }

theorem step_consume (v : Variant) : step ((readyToSend v).withEvent eng) = .next (consumed v) := by
  have h : step ((readyToSend v).withEvent eng) = .next (engineStep (readyToSend v)) := rfl
  rw [h, engineStep_idle rfl]
  unfold idleStep consume
  rw [show (readyToSend v).fb.allValid = true from (Memory.allValid_iff _).mpr allSet_valid]
  simp only [readyToSend, inPhase, ne_eq, not_true_eq_false, and_false, ↓reduceIte]
  rfl

-- V-HS-2, V-HS-4
theorem test_engine_accepts_S : statusAfter (inPhase .hsWaitS .serial [0x53]) eng = some 0x00000148 := by rfl
theorem test_engine_accepts_A : statusAfter (inPhase .hsWaitA .serial [0x41]) eng = some 0x000001D2 := by rfl
-- V-F-1, V-F-2
theorem test_engine_bad_byte : (after (inPhase .hsWaitS .serial [0x41]) eng).map (·.faultWord) = some 0x00034101 := by rfl
theorem test_engine_device_error : (after (inPhase .hsWaitS .serial [0x45]) eng).map (·.faultWord) = some 0x00034502 := by rfl
-- V-F-11
theorem test_engine_unset_pixel :
    (after { inPhase .idle .serial [] with ready := true } eng).map (fun t => (t.faultWord, t.ready)) = some (0x00070004, false) := by rfl
-- V-CYC-2
theorem test_engine_consume : (consumed .serial).statusWord = 0x0000027A := by rfl
-- V-F-3, V-EF-9
theorem test_timeout : (after (inPhase .hsWaitS .serial []) (.agent .timer)).map (·.faultWord) = some 0x00030003 := by rfl
theorem test_no_timeout_in_efWaitD : (after (inPhase .efWaitD .serial []) (.agent .timer)).map (·.phase) = some .efWaitD := by rfl
-- V-F-16
theorem test_reset :
    (after (inPhase .halt .socket []) (.agent .rst)).map (fun t => (t.statusWord, t.faultWord, t.variant)) =
      some (0, 0, .serial) := by rfl

/-! ### The Frame Encoder: V-ENC-1, V-ENC-2, V-ENC-5 -/

/-- The frame G1 of V-ENC-1: (p, 255 - p, p XOR 0x0F). -/
def g1 (p : Nat) : Rgb := { r := BitVec.ofNat 8 p, g := BitVec.ofNat 8 (255 - p), b := BitVec.ofNat 8 p ^^^ 0x0F }

theorem test_encode_odd_row : pixelBytes .serial (zigzag g1 16) = [0x1F, 0xE0, 0x10] := by rfl
theorem test_encode_last_row : pixelBytes .socket (zigzag g1 240) = [0x01, 0xFF, 0xF0] := by rfl
theorem test_encode_substitutes_per_lane : pixelBytes .socket (zigzag g1 15) = [0xF0, 0x0F, 0x01] := by rfl

/-! ### The host's numbering -/

theorem test_table_word_wrpx : decodeTableWord 48 0x104400FF0102 = some (.wrpx 17 255 1 2) := by rfl
theorem test_table_word_keepalive : decodeTableWord 16 0x4B00 = some .tokKeepalive := by rfl
theorem test_table_word_keepalive_high_byte_first : decodeTableWord 16 0x004B = some .tokKeepalive := by rfl
theorem test_table_word_bright : decodeTableWord 16 0x5442 = some (.tokBright (some 0x54)) := by rfl
theorem test_table_word_tokE : decodeTableWord 8 0x45 = some .tokE := by rfl
theorem test_fetch_word_runs : step (State.reset.withFetchWord 48 0x140003000000) = exec .connect State.reset := by rfl

/-! ### Witnesses: for each statement with hypotheses, states and operands that meet them, clause by
clause, at the ends of each range -/

/-- A step is taken from s with the entry e, to the state t. -/
def Steps (s : State) (e : Event) (t : State) : Prop := step (s.withEvent e) = .next t ∧ (s.withEvent e).nextEvent = e

theorem witness_DecodeOfEncodeIsTheInstruction :
    (Instr.busErr false 0x410 0).wf = true ∧ (Instr.cmdIllegal 0x00).wf = true ∧ (Instr.cmdIllegal 0x06).wf = true ∧
      (Instr.tokFrameSerial (List.replicate 768 0)).wf = true ∧ (Instr.tokFrameSocket (List.replicate 768 1)).wf = true := by
  decide +kernel

theorem witness_IgnoredFieldsMakeNoDifference :
    ((0x000 : Addr).extractLsb' 10 2 = 0 ∧ (0x000 : Addr).extractLsb' 0 2 = 0) ∧
      ((0x3FC : Addr).extractLsb' 10 2 = 0 ∧ (0x3FC : Addr).extractLsb' 0 2 = 0) ∧ (0x04 : Byte) ≠ 0x05 := by decide

theorem witness_DecodedInstructionIsWellFormed : decode (.token .socket [0x00, 0x51]) = .ok .tokQuit := by rfl

theorem witness_StepRunsTheDecodedInstruction :
    decode (busEvent true 0x400 0x03000000) = .ok .connect ∧
    decodeTableWord 48 0x140003000000 = some .connect ∧ decodeTableWord 8 0x5A = some .tokBlank := ⟨rfl, rfl, rfl⟩

theorem witness_WrpxWritesOnePixel :
    ((0x000 : Addr).extractLsb' 10 2 = 0 ∧ (0x000 : Addr).extractLsb' 0 2 = 0) ∧
      ((0x3FC : Addr).extractLsb' 10 2 = 0 ∧ (0x3FC : Addr).extractLsb' 0 2 = 0) ∧
      (0x400 < fbLane (0xFF : Byte).toNat 0 ∨ fbLane (0xFF : Byte).toNat 0 + 4 ≤ 0x400) ∧
      (fbLane (0xFF : Byte).toNat 0 - 1 < fbLane (0xFF : Byte).toNat 0) := by decide

theorem witness_SetReadySetsTheFlag : (0x01FFFFFF : Data).extractLsb' 24 8 = 0x01 := by decide
theorem witness_ClearReadyClearsTheFlag : (0x02000000 : Data).extractLsb' 24 8 = 0x02 := by decide
theorem witness_ConnectStartsTheHandshake : (0x03FFFFFF : Data).extractLsb' 24 8 = 0x03 := by decide
theorem witness_DisconnectClosesTheLink : (0x04000000 : Data).extractLsb' 24 8 = 0x04 := by decide
theorem witness_EffectLatchesTheCommand : (0x05420180 : Data).extractLsb' 24 8 = 0x05 := by decide
theorem witness_CmdIllegalOnlyRejects :
    ¬ (1 ≤ ((0x00FFFFFF : Data).extractLsb' 24 8).toNat ∧ ((0x00FFFFFF : Data).extractLsb' 24 8).toNat ≤ 5) ∧
      ¬ (1 ≤ ((0x06000000 : Data).extractLsb' 24 8).toNat ∧ ((0x06000000 : Data).extractLsb' 24 8).toNat ≤ 5) := by decide

theorem witness_RdpxReadsOnePixel :
    ((0x3FC : Addr).extractLsb' 10 2 = 0 ∧ (0x3FC : Addr).extractLsb' 0 2 = 0) ∧
    ({ State.reset with fb := [(1023, 1)] } : State).fb.valid (0xFF : Byte).toNat = true ∧
      State.reset.fb.valid (0x00 : Byte).toNat = false := by decide

theorem witness_InvariantHoldsAtReset : Inv State.reset := by constructor <;> decide

theorem witness_ResetValues : 0 < 256 ∧ 255 < 256 := by decide

theorem witness_RdfaultReturnsTheRecord : Inv State.reset ∧ State.reset.fatal = false :=
  ⟨witness_InvariantHoldsAtReset, rfl⟩

theorem witness_BusErrChangesNothing :
    (0x403 : Addr).extractLsb' 0 2 ≠ 0 ∧ 0x410 ≤ (0x410 : Addr).toNat ∧ 0x410 ≤ (0xFFF : Addr).toNat ∧
      (true = true ∧ ((0x404 : Addr) = 0x404 ∨ (0x404 : Addr) = 0x40C)) := by decide

theorem witness_ProducerOperationAlwaysCompletes :
    isProducerOp (.busErr false 0xFFF 0) = true ∧ isProducerOp .rdfault = true := ⟨rfl, rfl⟩

theorem witness_CmderrChangedOnlyByCmdOrConfigWrites :
    ∃ t, Steps State.reset (busEvent true 0x400 0) t ∧ t.cmdErr ≠ State.reset.cmdErr :=
  ⟨_, ⟨rfl, rfl⟩, by decide⟩

theorem witness_EncodePlacesEveryByte : 0 < 256 ∧ 255 < 256 := by decide

theorem witness_ZigzagIsItsOwnInverse : (0 / 16) % 2 = 0 ∧ 239 < 256 ∧ (239 / 16) % 2 = 0 ∧ 255 < 256 := by decide

theorem witness_SocketFrameHasNoZeroByte : (1 : Byte) ∈ (encodeFrame .socket fun _ => { r := 0, g := 0, b := 0 }).toList :=
  mem_encodeFrame.mpr ⟨0, by decide, by decide⟩

theorem witness_SerialFrameLosesNothing : 0 < 256 ∧ 255 < 256 := by decide

theorem witness_IdleStepPriority :
    ((inPhase .idle .serial [0x45]).phase = .idle ∧ (inPhase .idle .serial [0x45]).fatal = false ∧
      (inPhase .idle .serial [0x45]).variant = .serial ∧ (inPhase .idle .serial [0x45]).rxFifo = 0x45 :: []) ∧
    ((inPhase .idle .socket [0x45]).phase = .idle ∧ (inPhase .idle .socket [0x45]).fatal = false ∧
      (inPhase .idle .socket [0x45]).variant = .socket ∧ (inPhase .idle .socket [0x45]).ready = false) ∧
    ((readyToSend .serial).phase = .idle ∧ (readyToSend .serial).fatal = false ∧ (readyToSend .serial).rxFifo = [] ∧
      (readyToSend .serial).ready = true) := ⟨by decide, by decide, rfl, rfl, rfl, rfl⟩

theorem witness_ConsumeTakesTheSnapshot :
    ((readyToSend .socket).phase = .idle ∧ (readyToSend .socket).ready = true ∧ (readyToSend .socket).fatal = false ∧
      (readyToSend .socket).variant = .socket ∧ ∀ p < 256, (readyToSend .socket).fb.valid p = true) ∧
    (({ readyToSend .serial with fb := [] } : State).rxFifo = [] ∧
      ∃ p < 256, ({ readyToSend .serial with fb := [] } : State).fb.valid p = false) :=
  ⟨⟨rfl, rfl, rfl, rfl, allSet_valid⟩, rfl, 255, by decide, rfl⟩

theorem witness_WaitStepRejectsOtherBytes :
    ((inPhase .efWaitD .serial [0x41]).phase.isWait = true ∧ (inPhase .efWaitD .serial [0x41]).fatal = false ∧
      (inPhase .efWaitD .serial [0x41]).rxFifo = 0x41 :: [] ∧ (0x41 : Byte) ≠ (inPhase .efWaitD .serial [0x41]).phase.ackCode) ∧
    ((inPhase .hsWaitS .serial []).phase.isWait = true ∧ (inPhase .hsWaitS .serial []).rxFifo = []) := by decide

theorem witness_WaitStepAcceptsTheAwaitedByte :
    ((inPhase .hsWaitS .socket [0x53]).phase = .hsWaitS ∧ (inPhase .hsWaitS .socket [0x53]).rxFifo = 0x53 :: []) ∧
    ((inPhase .hsWaitA .socket [0x41]).phase = .hsWaitA ∧ (inPhase .hsWaitA .socket [0x41]).rxFifo = 0x41 :: []) ∧
    ((inPhase .txWaitA .socket [0x41]).phase = .txWaitA ∧ (inPhase .txWaitA .socket [0x41]).rxFifo = 0x41 :: []) ∧
    ((inPhase .txWaitD .socket [0x44]).phase = .txWaitD ∧ (inPhase .txWaitD .socket [0x44]).rxFifo = 0x44 :: []) ∧
    ((inPhase .efWaitA1 .serial [0x41]).phase = .efWaitA1 ∧ (inPhase .efWaitA1 .serial [0x41]).rxFifo = 0x41 :: []) ∧
    ((inPhase .efWaitA2 .serial [0x41]).phase = .efWaitA2 ∧ (inPhase .efWaitA2 .serial [0x41]).rxFifo = 0x41 :: []) ∧
    ((inPhase .efWaitD .serial [0x44]).phase = .efWaitD ∧ (inPhase .efWaitD .serial [0x44]).rxFifo = 0x44 :: []) := by decide

theorem witness_HandshakeAndGoTokensAreSent :
    (inPhase .hsK0 .socket []).phase = .hsK0 ∧ (inPhase .hsK1 .socket []).phase = .hsK1 ∧
    (inPhase .hsG0 .socket []).phase = .hsG0 ∧
    ((inPhase .hsG1 .socket []).phase = .hsG1 ∧ (inPhase .hsG1 .socket []).variant = .socket) ∧
    ((inPhase .hsG1 .serial []).phase = .hsG1 ∧ (inPhase .hsG1 .serial []).variant = .serial) ∧
    (inPhase .txG0 .socket []).phase = .txG0 ∧
    ((inPhase .txG1 .socket []).phase = .txG1 ∧ (inPhase .txG1 .socket []).variant = .socket) ∧
    ((inPhase .txG1 .serial []).phase = .txG1 ∧ (inPhase .txG1 .serial []).variant = .serial) := by decide

theorem witness_FrameTokensAreSent :
    ((inPhase .txFrame .serial []).phase = .txFrame ∧ (inPhase .txFrame .serial []).variant = .serial ∧
      (inPhase .txFrame .serial []).txcnt = 0) ∧
    (({ inPhase .txFrame .socket [] with txcnt := 767 } : State).variant = .socket ∧
      ({ inPhase .txFrame .socket [] with txcnt := 767 } : State).txcnt = 767) ∧
    ([0x00] : List Byte) ≠ (inPhase .txFrame .serial []).snap.toList :=
  ⟨⟨rfl, rfl, rfl⟩, ⟨rfl, rfl⟩, by decide +kernel⟩

/-- The effect `code` in flight, with or without a value byte. -/
def inEffect (p : Phase) (code : Byte) (hasval : Bool) (val : Byte) : State := (inPhase p .serial []).latchEffect code hasval val

theorem witness_EffectTokensAreSent :
    ((inEffect .efCmd 0x42 true 0x80).phase = .efCmd ∧ (inEffect .efCmd 0x42 true 0x80).efCode = 0x42) ∧
    ((inEffect .efCmd 0x54 false 0x80).phase = .efCmd ∧ (inEffect .efCmd 0x54 false 0x80).efCode = 0x54) ∧
    ((inEffect .efCmd 0x5A false 0x80).phase = .efCmd ∧ (inEffect .efCmd 0x5A false 0x80).efCode = 0x5A) ∧
    ((inEffect .efVal 0x42 true 0xFF).phase = .efVal ∧ (inEffect .efVal 0x42 true 0xFF).efCode = 0x42) ∧
    ((inEffect .efVal 0x54 true 0x00).phase = .efVal ∧ (inEffect .efVal 0x54 true 0x00).efCode = 0x54) := by decide

theorem witness_ClosingTokensAreSent :
    (inPhase .dcQ0 .socket []).phase = .dcQ0 ∧ (inPhase .dcQ1 .socket []).phase = .dcQ1 ∧
    (inPhase .fltZ .serial []).phase = .fltZ ∧ (inPhase .fltQ0 .socket []).phase = .fltQ0 ∧
    (inPhase .fltQ1 .socket []).phase = .fltQ1 := by decide

theorem witness_TokensAreSentOnlyInTheirPhases :
    tokenVariant .tokGoSerial = some .serial ∧ tokenVariant .tokQuit = some .socket := ⟨rfl, rfl⟩

theorem witness_EverySendIsOfAToken :
    (Inv (inPhase .hsK0 .socket []) ∧ (inPhase .hsK0 .socket []).phase.isSend = true) ∧
    (Inv (inEffect .efVal 0x42 true 0x80) ∧ (inEffect .efVal 0x42 true 0x80).phase.isSend = true) :=
  ⟨⟨by constructor <;> decide, rfl⟩, ⟨by constructor <;> decide, rfl⟩⟩

theorem witness_DeliveryQueuesOrOverflows :
    ((inPhase .fltQ1 .socket []).phase = .fltQ1 ∧ (inPhase .fltQ1 .socket []).fatal = true) ∧
    ((inPhase .idle .socket (List.replicate 16 0x41)).fatal = false ∧
      (inPhase .idle .socket (List.replicate 16 0x41)).rxFifoDepth ≤ (inPhase .idle .socket (List.replicate 16 0x41)).rxFifo.length) ∧
    ((inPhase .idle .socket (List.replicate 15 0x41)).fatal = false ∧
      ¬ (inPhase .idle .socket (List.replicate 15 0x41)).rxFifoDepth ≤
        (inPhase .idle .socket (List.replicate 15 0x41)).rxFifo.length) := by decide

theorem witness_DeviceTokensAreDelivered :
    (inPhase .idle .socket (List.replicate 15 0x41)).phase.rxOpen = true ∧
      (inPhase .idle .socket (List.replicate 15 0x41)).rxFifo.length <
        (inPhase .idle .socket (List.replicate 15 0x41)).rxFifoDepth := by decide

theorem witness_TimeoutOnlyInQualifyingStates :
    ((inPhase .txWaitD .socket []).fatal = false ∧ (inPhase .txWaitD .socket []).phase.isWait = true ∧
      (inPhase .txWaitD .socket []).phase ≠ .efWaitD ∧ (inPhase .txWaitD .socket []).rxFifo = []) ∧
    ((inPhase .efWaitD .serial []).phase = .efWaitD ∧ (inPhase .fltZ .serial []).fatal = true) := by decide

theorem witness_RestPhasesHold : (inPhase .halt .socket []).phase = .halt ∧ State.reset.phase = .disc := ⟨rfl, rfl⟩

theorem witness_EveryStepKeepsTheInvariant :
    (∃ t, Inv State.reset ∧ Steps State.reset (busEvent true 0x400 0x03000000) t) ∧
    (∃ t, Inv (inPhase .hsWaitS .serial [0x41]) ∧ Steps (inPhase .hsWaitS .serial [0x41]) eng t) :=
  ⟨⟨_, witness_InvariantHoldsAtReset, rfl, rfl⟩, ⟨_, by constructor <;> decide, rfl, rfl⟩⟩

theorem witness_FatalIsStickyUntilReset :
    ∃ t, Steps (inPhase .halt .serial []) (busEvent true 0x400 0x03000000) t ∧
      busEvent true 0x400 0x03000000 ≠ .agent .rst ∧ (inPhase .halt .serial []).fatal = true ∧
      (inPhase .halt .serial []).phase = .halt :=
  ⟨_, ⟨rfl, rfl⟩, by decide, rfl, rfl⟩

theorem witness_FaultCausesAreRecorded :
    (∃ t, Steps (inPhase .hsWaitS .serial [0x41]) eng t ∧ (inPhase .hsWaitS .serial [0x41]).fatal = false ∧
      t.fatal = true ∧ t.cause = .badByte) ∧
    (∃ t, Steps (inPhase .idle .serial [0x45]) eng t ∧ t.fatal = true ∧ t.cause = .deviceError) ∧
    (∃ t, Steps (inPhase .hsWaitS .serial []) (.agent .timer) t ∧ t.fatal = true ∧ t.cause = .timeout) ∧
    (∃ t, Steps { inPhase .idle .serial [] with ready := true } eng t ∧ t.fatal = true ∧ t.cause = .unsetPixel) ∧
    (∃ t, Steps (inPhase .idle .socket (List.replicate 16 0x41)) (.agent (.device 0x41)) t ∧ t.fatal = true ∧
      t.cause = .rxOverflow) :=
  ⟨⟨_, ⟨rfl, rfl⟩, rfl, rfl, rfl⟩, ⟨_, ⟨rfl, rfl⟩, rfl, rfl⟩, ⟨_, ⟨rfl, rfl⟩, rfl, rfl⟩, ⟨_, ⟨rfl, rfl⟩, rfl, rfl⟩,
    ⟨_, ⟨rfl, rfl⟩, rfl, rfl⟩⟩

theorem witness_PhaseChangesFollowTheTable :
    (∃ t, Steps State.reset (busEvent true 0x400 0x03000000) t ∧ t.phase ≠ State.reset.phase) ∧
    (∃ t, Steps (inPhase .efWaitA2 .serial [0x45]) eng t ∧ t.phase ≠ (inPhase .efWaitA2 .serial [0x45]).phase) ∧
    (eng ≠ .agent .rst ∧ busEvent true 0x400 0x03000000 ≠ .agent .rst) :=
  ⟨⟨_, ⟨rfl, rfl⟩, by decide⟩, ⟨_, ⟨rfl, rfl⟩, by decide⟩, by decide, by decide⟩

theorem witness_StepEmitsAtMostOneByte :
    ∃ t, Steps (inPhase .hsK0 .socket [0x41]) eng t ∧ t.tx = (inPhase .hsK0 .socket [0x41]).tx ++ [0x00] := ⟨_, ⟨rfl, rfl⟩, rfl⟩

theorem encodeFrame_ne_zeros : encodeFrame .socket allSet.rgb ≠ Vector.replicate 768 0 := by
  intro h
  have h0 := encodeFrame_getElem? .socket allSet.rgb (q := 0) (k := 0) (by decide) (by decide)
  rw [h] at h0
  exact substZero_ne_zero _ (Option.some.inj h0).symm

theorem witness_BuffersHaveOneWriter :
    (∃ t, Steps State.reset (busEvent true 0x044 0x00FF0000) t ∧ t.fb ≠ State.reset.fb) ∧
    (∃ t, Steps (readyToSend .socket) eng t ∧ t.snap ≠ (readyToSend .socket).snap) ∧
    (eng ≠ .agent .rst ∧ busEvent true 0x044 0x00FF0000 ≠ .agent .rst) :=
  ⟨⟨_, ⟨rfl, rfl⟩, by decide⟩, ⟨_, ⟨step_consume _, rfl⟩, encodeFrame_ne_zeros⟩, by decide, by decide⟩

theorem witness_FlagIsConsumedAtMostOnce :
    (∃ t, Steps State.reset (busEvent true 0x400 0x01000000) t ∧ State.reset.ready = false ∧ t.ready = true) ∧
    (∃ t, Steps { State.reset with ready := true } (busEvent true 0x400 0x02000000) t ∧ t.ready = false) ∧
    (∃ t, Steps (readyToSend .serial) eng t ∧ (readyToSend .serial).phase = .idle ∧ t.phase = .txG1) :=
  ⟨⟨_, ⟨rfl, rfl⟩, rfl, rfl⟩, ⟨_, ⟨rfl, rfl⟩, rfl⟩, ⟨_, ⟨step_consume _, rfl⟩, rfl, rfl⟩⟩

theorem witness_VariantChangesOnlyInDisc :
    ∃ t, Steps State.reset (busEvent true 0x408 0x00000001) t ∧ t.variant ≠ State.reset.variant := ⟨_, ⟨rfl, rfl⟩, by decide⟩

theorem witness_AwaitingAckIsLeftByByteOrTimeout :
    ∃ t, Steps (inPhase .hsWaitS .serial [0x53]) eng t ∧ (inPhase .hsWaitS .serial [0x53]).phase.lstate = 2 ∧ t.phase.lstate ≠ 2 :=
  ⟨_, ⟨rfl, rfl⟩, rfl, by decide⟩

/-- DISC with an agenda. -/
def startWith (v : Variant) (agenda : List Event) : State := { inPhase .disc v [] with agenda := agenda }

theorem witness_HandshakeEndsConnected :
    ((startWith .serial [encode .connect, encode .tokS, eng, eng, encode .tokA, eng]).phase = .disc ∧
      (startWith .serial [encode .connect, encode .tokS, eng, eng, encode .tokA, eng]).fatal = false ∧
      1 ≤ (startWith .serial [encode .connect, encode .tokS, eng, eng, encode .tokA, eng]).rxFifoDepth ∧
      (startWith .serial [encode .connect, encode .tokS, eng, eng, encode .tokA, eng]).variant = .serial) ∧
    ((startWith .socket [encode .connect, eng, eng, encode .tokS, eng, eng, eng, encode .tokA, eng]).variant = .socket ∧
      (startWith .socket [encode .connect, eng, eng, encode .tokS, eng, eng, eng, encode .tokA, eng]).agenda =
        [encode .connect, eng, eng, encode .tokS, eng, eng, eng, encode .tokA, eng] ++ []) := by decide

theorem witness_FrameTakesExactly768Steps :
    (0 ≤ 768 ∧ 768 ≤ 768) ∧ (inPhase .txFrame .serial []).phase = .txFrame ∧ (inPhase .txFrame .serial []).txcnt = 0 ∧
      (inPhase .txFrame .serial []).agenda = List.replicate 0 eng ++ [] ∧
      ({ inPhase .txFrame .serial [] with agenda := List.replicate 768 eng } : State).agenda = List.replicate 768 eng ++ [] :=
  ⟨by decide, rfl, rfl, rfl, (List.append_nil _).symm⟩

/-- IDLE, ready to send, with the order of events of a whole cycle in which the Device answers. -/
def cycleStart (v : Variant) (agenda : List Event) : State := { readyToSend v with agenda := agenda }

theorem witness_OneConsumeGivesOneCycle_serial :
    let s := cycleStart .serial ([eng, eng, encode .tokA, eng] ++ List.replicate 768 eng ++ [])
    s.phase = .idle ∧ s.ready = true ∧ s.rxFifo = [] ∧ 1 ≤ s.rxFifoDepth ∧ (∀ p < 256, s.fb.valid p = true) ∧
      s.variant = .serial ∧ s.agenda = [eng, eng, encode .tokA, eng] ++ List.replicate 768 eng ++ [] :=
  ⟨rfl, rfl, rfl, by decide, allSet_valid, rfl, rfl⟩

theorem witness_OneConsumeGivesOneCycle_socket :
    let s := cycleStart .socket ([eng, eng, eng, encode .tokA, eng] ++ List.replicate 768 eng ++ [encode .tokD, eng] ++ [])
    s.phase = .idle ∧ s.ready = true ∧ s.rxFifo = [] ∧ 1 ≤ s.rxFifoDepth ∧ (∀ p < 256, s.fb.valid p = true) ∧
      s.variant = .socket ∧
      s.agenda = [eng, eng, eng, encode .tokA, eng] ++ List.replicate 768 eng ++ [encode .tokD, eng] ++ [] :=
  ⟨rfl, rfl, rfl, by decide, allSet_valid, rfl, rfl⟩

/-! A run for FlagIsEventuallyConsumed: the consume of a frame, its Go, a timeout, the fatal sequence, and
then the Engine holding in HALT for ever. -/

/-- Its entries. -/
def runEntry : Nat → AgentStep
  | 2 => .timer
  | _ => .engine

/-- Its states. -/
def runState : Nat → State
  | 0 => readyToSend .serial
  | 1 => consumed .serial
  | 2 => engineStep (consumed .serial)
  | 3 => fatalEntry (engineStep (consumed .serial)) .timeout 0
  | _ + 4 => engineStep (fatalEntry (engineStep (consumed .serial)) .timeout 0)

theorem runState_halt (n : Nat) : (runState (n + 4)).phase = .halt := rfl

theorem runState_isRun : IsRun runEntry runState := by
  intro n
  match n with
  | 0 => exact step_consume .serial
  | 1 => rfl
  | 2 => rfl
  | 3 => rfl
  | _ + 4 => rfl

/-- Fair to an agent that HALT does not enable. -/
theorem runState_fair {a : Agent} (h : ∀ s : State, s.phase = .halt → ¬ a.Enabled s) : WeaklyFairTo a runEntry runState :=
  fun n hn => absurd (hn (n + 4) (Nat.le_add_right n 4)) (h _ (runState_halt n))

theorem runState_fair_engine : WeaklyFairTo .engine runEntry runState := runState_fair fun s h he => by
  rcases he with h' | ⟨h', _⟩ | ⟨h', _⟩ <;> rw [h] at h' <;> exact absurd h' (by decide)

theorem runState_fair_timer : WeaklyFairTo .timer runEntry runState := runState_fair fun s h he => by
  rw [Agent.Enabled, h] at he; exact absurd he.1 (by decide)

theorem runState_waits (n : Nat) : (runState n).phase ≠ .efWaitD := by
  match n with
  | 0 => decide
  | 1 => decide
  | 2 => decide
  | 3 => decide
  | k + 4 => rw [runState_halt k]; decide

theorem wfFrom_pixels (k n : Nat) (h : k + n ≤ 256) :
    Memory.wfFrom (4 * k) ((List.range' k n).map fun p => (4 * p + 3, 1)) = true := by
  induction n generalizing k with
  | zero => rfl
  | succ n ih =>
    rw [List.range'_succ, List.map_cons, Memory.wfFrom_cons]
    exact ⟨by omega, by omega, by decide, fun _ => rfl, ih (k + 1) (by omega)⟩

theorem allSet_wf : allSet.wf = true := by
  unfold allSet
  rw [List.range_eq_range']
  exact wfFrom_pixels 0 256 (by decide)

theorem readyToSend_inv : Inv (readyToSend .serial) := by
  refine ⟨allSet_wf, ?_, ?_, ?_, ?_, ?_, ?_, ?_, ?_, ?_, ?_, ?_, ?_, ?_, ?_, ?_, ?_, ?_, ?_, ?_⟩ <;> decide

theorem witness_FlagIsEventuallyConsumed :
    IsRun runEntry runState ∧ WeaklyFairTo .engine runEntry runState ∧ WeaklyFairTo .timer runEntry runState ∧
    Inv (runState 0) ∧ (runState 0).ready = true ∧
    (∀ n, (runState n).phase = .efWaitD → ∃ m, n ≤ m ∧ ((runState m).phase ≠ .efWaitD ∨ (runState m).rxFifo ≠ [])) ∧
    (∃ N, ∀ n, N ≤ n → (runState n).phase = .idle →
      (runState (n + 1)).phase ≠ .efCmd ∧ ((runState n).variant = .serial → agentOf (runEntry n) ≠ some .device)) :=
  ⟨runState_isRun, runState_fair_engine, runState_fair_timer, readyToSend_inv, rfl,
    fun n h => absurd h (runState_waits n),
    4, fun n hn h => by obtain ⟨k, rfl⟩ := Nat.exists_eq_add_of_le' hn; rw [runState_halt] at h; cases h⟩

end Sys2Proof.Tests
end

section
/-! Proofs of the family 00_scope.md: a step runs the decoded instruction, and what a step emits (R4, R60). -/

namespace Sys2Proof.Machine

/-! ### Running a decoded entry -/

/-- The two readers of an agenda entry agree: where `decode` answers an instruction, `runEvent` executes it. -/
theorem runEvent_of_decode {e : Event} {i : Instr} (s : State) (h : decode e = .ok i) : runEvent e s = exec i s := by
  cases e with
  | agent a =>
    cases a with
    | producer t => cases h; rfl
    | device b =>
      cases hd : decodeDevice b with
      | none => simp [decode, hd] at h
      | some j =>
        have hj : j = i := by simpa [decode, hd] using h
        simp only [runEvent, hd, hj]
    | engine => cases h
    | timer => cases h
    | rst => cases h
  | token v bytes =>
    cases hd : decodeToken v bytes with
    | none => simp [decode, hd] at h
    | some j =>
      have hj : j = i := by simpa [decode, hd] using h
      simp only [runEvent, hd, hj]

/-- A pushed entry that decodes is the instruction the next step executes. -/
theorem step_withEvent_of_decode {e : Event} {i : Instr} (s : State) (h : decode e = .ok i) :
    step (s.withEvent e) = exec i s := runEvent_of_decode s h

/-- A number reads as an instruction exactly when its agenda entry decodes to it. -/
theorem decodeTableWord_eq_some {nbits w : Nat} {i : Instr} :
    decodeTableWord nbits w = some i ↔ decode (eventOfTableWord nbits w) = .ok i := by
  unfold decodeTableWord
  cases decode (eventOfTableWord nbits w) <;> simp

/-- Settles O7: the decoder and `runEvent` read every agenda entry alike. -/
theorem stepRunsTheDecodedInstruction : Obligations.StepRunsTheDecodedInstruction :=
  ⟨fun s _ _ h => step_withEvent_of_decode s h,
    fun s _ _ _ h => step_withEvent_of_decode s (decodeTableWord_eq_some.mp h)⟩

/-! ### What each agent's step does to the TX stream -/

/-- A WAIT step emits nothing if its success action does not (R211). -/
theorem waitStep_tx (s : State) {success : State → State} (hs : ∀ u : State, (success u).tx = u.tx) :
    (waitStep s success).tx = s.tx := by
  obtain ⟨-, e⟩ | ⟨b, rest, -, ⟨-, e⟩ | ⟨-, -, e⟩ | ⟨-, -, e⟩⟩ := waitStep_cases s success <;> simp [e, hs]

@[simp] theorem consume_tx (s : State) : (consume s).tx = s.tx := by
  obtain ⟨-, e⟩ | ⟨-, e⟩ := consume_cases s <;> simp [e]

@[simp] theorem idleStep_tx (s : State) : (idleStep s).tx = s.tx := by
  obtain ⟨_, -, -, e⟩ | ⟨_, _, -, -, -, e⟩ | ⟨-, -, e⟩ | ⟨-, -, e⟩ := idleStep_cases s <;> simp [e]

@[simp] theorem deliver_tx (s : State) (b : Byte) : (deliver s b).tx = s.tx := by
  obtain ⟨-, e⟩ | ⟨-, -, e⟩ | ⟨-, -, e⟩ := deliver_cases s b <;> simp [e]

@[simp] theorem timeoutStep_tx (s : State) : (timeoutStep s).tx = s.tx := by
  obtain ⟨-, -, -, e⟩ | ⟨-, e⟩ := timeoutStep_cases s <;> simp [e]

/-- From s to t exactly one byte is emitted, in a SEND phase, and no received byte is consumed. -/
def SendsOneByte (s t : State) : Prop :=
  (∃ b, t.tx = s.tx ++ [b]) ∧ t.rxFifo = s.rxFifo ∧ s.phase.isSend = true

/-- The Engine's step emits nothing, or is a SEND phase's emission of one byte (R184). -/
theorem engineStep_tx_cases (s : State) : (engineStep s).tx = s.tx ∨ SendsOneByte s (engineStep s) := by
  obtain ⟨-, success, e, hsuccess⟩ | ⟨-, e⟩ | ⟨hsend, b, p, n, e⟩ | ⟨-, e⟩ := engineStep_cases s
  case inl =>
    have keeps (u : State) : (success u).tx = u.tx := by
      obtain ⟨p, hu | hu | hu⟩ := hsuccess u <;> simp [hu]
    exact Or.inl (by rw [e, waitStep_tx s keeps])
  case inr.inl => exact Or.inl (by rw [e, idleStep_tx])
  case inr.inr.inl =>
    rw [e]
    exact Or.inr ⟨⟨b, rfl⟩, rfl, hsend⟩
  case inr.inr.inr => exact Or.inl (by rw [e])

/-- The same, seen from the state before the entry is fetched. -/
theorem engineStep_afterFetch_tx_cases (s : State) :
    (engineStep s.afterFetch).tx = s.tx ∨ SendsOneByte s (engineStep s.afterFetch) := by
  simpa [SendsOneByte] using engineStep_tx_cases s.afterFetch

/-- A step emits nothing, or its entry is an Engine entry and it emits one byte (R4). -/
theorem step_tx_cases {s t : State} (h : step s = .next t) :
    t.tx = s.tx ∨ (SendsOneByte s t ∧ isEngineEntry s.nextEvent = true) := by
  obtain ⟨w, -, hx⟩ | ⟨he, rfl⟩ | ⟨v, bytes, he, rfl | ⟨-, rfl⟩⟩ | ⟨b, -, rfl⟩ | ⟨-, rfl⟩ | ⟨-, rfl⟩ := step_cases h
  · obtain ⟨-, -, -, -, -, -, htx, -⟩ := exec_producer_frame (isProducerOp_decodeBus w) hx
    exact Or.inl (by rw [htx, State.afterFetch_tx])
  · exact (engineStep_afterFetch_tx_cases s).imp_right fun hs => ⟨hs, by rw [he]; rfl⟩
  · exact Or.inl s.afterFetch_tx
  · exact (engineStep_afterFetch_tx_cases s).imp_right fun hs => ⟨hs, by rw [he]; rfl⟩
  · exact Or.inl (by simp)
  · exact Or.inl (by simp)
  · exact Or.inl (by simp)

/-- Settles O52: only the Engine's step touches TX, and only where a SEND phase emits. -/
theorem stepEmitsAtMostOneByte : Obligations.StepEmitsAtMostOneByte := fun _ _ h =>
  (step_tx_cases h).imp_right fun ⟨⟨hbyte, hfifo, hsend⟩, hentry⟩ => ⟨hbyte, hfifo, hsend, hentry⟩

end Sys2Proof.Machine
end

section
/-! Proofs of the family 10_state.md, the invariant (R30, R33, R34, R36, R37, R43, R117, R183, R241): the
invariant is split into what it says of the registers alone and what PHASE asks of them. A step that
changes PHASE then has to show only what the new phase asks. -/

namespace Sys2Proof.Machine

/-! ### The invariant in two parts -/

/-- The clauses of `Inv` that do not name PHASE. -/
structure RegInv (s : State) : Prop where
  fb_wf : s.fb.wf = true
  depth_pos : 1 ≤ s.rxFifoDepth
  fifo_le : s.rxFifo.length ≤ s.rxFifoDepth
  fatal_fifo : s.fatal = true → s.rxFifo = []
  fault_clear : s.fatal = false → s.cause = .none ∧ s.faultByte = 0 ∧ s.faultPhase = .disc
  fault_set : s.fatal = true → s.cause ≠ .none ∧ s.faultPhase.rxOpen = true
  byte_bad : s.cause = .badByte → s.faultByte ≠ char .E
  byte_device : s.cause = .deviceError → s.faultByte = char .E
  byte_other : s.cause = .timeout ∨ s.cause = .unsetPixel ∨ s.cause = .rxOverflow → s.faultByte = 0
  latch_val : s.efHasVal = false → s.efVal = 0
  latch_blank : s.efCode = char .Z → s.efHasVal = false

/-- The clauses of `Inv` that name PHASE, asked of the registers of `s` by the phase `p`. What a given
phase does not ask (its class does not hold of it) is filled in. -/
structure PhaseFits (s : State) (p : Phase) : Prop where
  fatal_iff : s.fatal = p.isFatal
  conn_iff : s.conn = p.isConnected
  socket_only : p.socketOnly = true → s.variant = .socket := by nofun
  serial_only : p.serialOnly = true → s.variant = .serial := by nofun
  txcnt_zero : p ≠ .txFrame → s.txcnt = 0
  effect_code : p.isEffect = true → s.efCode = char .B ∨ s.efCode = char .T ∨ s.efCode = char .Z := by nofun
  effect_ack : p.isEffect = true → p ≠ .efCmd → s.efCode ≠ char .Z := by nofun
  effect_value : p = .efVal ∨ p = .efWaitA2 → s.efHasVal = true := by nofun
  snap_nonzero : p.inTxp = true → s.variant = .socket → s.snap.toList.all (· != 0) = true := by nofun

/-- The two parts are the invariant. -/
theorem inv_iff {s : State} : Inv s ↔ RegInv s ∧ PhaseFits s s.phase :=
  ⟨fun h => ⟨{ h with }, { h with }⟩, fun ⟨hreg, hfits⟩ => { hreg, hfits with }⟩

theorem Inv.reg {s : State} (h : Inv s) : RegInv s := (inv_iff.mp h).1

theorem Inv.fits {s : State} {p : Phase} (h : Inv s) (hp : s.phase = p) : PhaseFits s p := hp ▸ (inv_iff.mp h).2

/-- A phase may be entered when the registers are as it asks. -/
theorem RegInv.enter {s : State} {p : Phase} (hreg : RegInv s) (hfits : PhaseFits s p) : Inv (s.setPhase p) :=
  inv_iff.mpr ⟨{ hreg with }, { hfits with }⟩

/-- Every register condition that the phase `q` asks for, the phase `p` asks for too. -/
abbrev Phase.AsksNoMore (q p : Phase) : Prop :=
  q.isFatal = p.isFatal ∧ q.isConnected = p.isConnected ∧
  (q.socketOnly = true → p.socketOnly = true) ∧ (q.serialOnly = true → p.serialOnly = true) ∧
  (q ≠ .txFrame → p ≠ .txFrame) ∧ (q.isEffect = true → p.isEffect = true) ∧
  (q.isEffect = true → q ≠ .efCmd → p.isEffect = true ∧ p ≠ .efCmd) ∧
  (q = .efVal ∨ q = .efWaitA2 → p = .efVal ∨ p = .efWaitA2) ∧ (q.inTxp = true → p.inTxp = true)

/-- Registers that fit a phase fit every phase that asks no more. -/
theorem PhaseFits.mono {s : State} {p q : Phase} (h : PhaseFits s p) (hq : q.AsksNoMore p) : PhaseFits s q := by
  obtain ⟨hfatal, hconn, hsocket, hserial, htxcnt, heffect, hack, hvalue, htxp⟩ := hq
  exact {
    fatal_iff := h.fatal_iff.trans hfatal.symm
    conn_iff := h.conn_iff.trans hconn.symm
    socket_only := fun hp => h.socket_only (hsocket hp)
    serial_only := fun hp => h.serial_only (hserial hp)
    txcnt_zero := fun hp => h.txcnt_zero (htxcnt hp)
    effect_code := fun hp => h.effect_code (heffect hp)
    effect_ack := fun hp hne => h.effect_ack (hack hp hne).1 (hack hp hne).2
    effect_value := fun hp => h.effect_value (hvalue hp)
    snap_nonzero := fun hp => h.snap_nonzero (htxp hp) }

/-- PHASE may move to every phase that asks no more of the registers. -/
theorem Inv.moveTo {s : State} {p q : Phase} (h : Inv s) (hp : s.phase = p) (hq : q.AsksNoMore p) : Inv (s.setPhase q) :=
  h.reg.enter ((h.fits hp).mono hq)

/-! ### Updates of what no clause speaks of -/

section
variable {s : State} (h : Inv s)
include h

theorem inv_afterFetch : Inv s.afterFetch := by
  unfold State.afterFetch
  split
  · exact { h with }
  · exact { h with }

theorem inv_setReady (b : Bool) : Inv (s.setReady b) := { h with }
theorem inv_emit (b : Byte) : Inv (s.emit b) := { h with }
theorem inv_drawn : Inv s.drawn := { h with }
theorem inv_okay (d : Data) : Inv (s.okay d) := { h with }
theorem inv_busError : Inv s.busError := { h with }
theorem inv_accept : Inv s.accept := { h with }
theorem inv_reject (c : CmdErr) : Inv (s.reject c) := { h with }

/-! ### The FIFO and fatal entry -/

/-- Popping a byte: FATAL is 0, since the FIFO was not empty. -/
theorem inv_pop {b : Byte} {rest : List Byte} (hq : s.rxFifo = b :: rest) : Inv (s.setRxFifo rest) := by
  have hle : (b :: rest).length ≤ s.rxFifoDepth := hq ▸ h.fifo_le
  exact { h with
    fifo_le := (Nat.le_succ _).trans hle
    fatal_fifo := fun hf => absurd (hq.symm.trans (h.fatal_fifo hf)) (List.cons_ne_nil _ _) }

/-- A phase that keeps received bytes is no phase after a fatal error. -/
theorem fatal_false_of_rxOpen (ho : s.phase.rxOpen = true) : s.fatal = false := by
  rw [h.fatal_iff]
  revert ho
  cases s.phase <;> decide

/-- Queueing a byte where the FIFO is open and has room. -/
theorem inv_push {b : Byte} (ho : s.phase.rxOpen = true) (hroom : s.rxFifo.length < s.rxFifoDepth) :
    Inv (s.setRxFifo (s.rxFifo ++ [b])) :=
  { h with
    fifo_le := by simpa using hroom
    fatal_fifo := fun hf => absurd hf (by simp [fatal_false_of_rxOpen h ho]) }

end

/-- FAULT_BYTE as R240 gives it for each cause. -/
def Cause.Records : Cause → Byte → Prop
  | .none, _ => False
  | .badByte, b => b ≠ char .E
  | .deviceError, b => b = char .E
  | .timeout, b => b = 0
  | .unsetPixel, b => b = 0
  | .rxOverflow, b => b = 0

/-- Fatal entry meets the invariant, from a phase with an open link and with a byte of its cause (R241). -/
theorem inv_raiseFatal {s : State} {c : Cause} {b : Byte} (h : Inv s) (ho : s.phase.rxOpen = true) (hb : c.Records b) :
    Inv (s.raiseFatal c b) := by
  rw [s.raiseFatal_of_not_fatal c b (fatal_false_of_rxOpen h ho)]
  have hreg : RegInv (fatalEntry s c b) := { h with
    fifo_le := Nat.zero_le _
    fatal_fifo := fun _ => rfl
    fault_clear := nofun
    fault_set := fun _ => ⟨by rintro rfl; exact hb, ho⟩
    byte_bad := by rintro rfl; exact hb
    byte_device := by rintro rfl; exact hb
    byte_other := by rintro (rfl | rfl | rfl) <;> exact hb }
  refine inv_iff.mpr ⟨hreg, ?_⟩
  rw [fatalEntry_phase]
  cases hv : s.variant
  · exact { fatal_iff := rfl, conn_iff := rfl, serial_only := fun _ => hv, txcnt_zero := fun _ => rfl }
  · exact { fatal_iff := rfl, conn_iff := rfl, socket_only := fun _ => hv, txcnt_zero := fun _ => rfl }

/-! ### The Device, the Timer and reset -/

theorem rxOpen_of_isWait {p : Phase} (hp : p.isWait = true) : p.rxOpen = true := by
  revert hp
  cases p <;> decide

theorem inv_deliver {s : State} (b : Byte) (h : Inv s) : Inv (deliver s b) := by
  obtain ⟨-, e⟩ | ⟨ho, -, e⟩ | ⟨ho, hroom, e⟩ := deliver_cases s b <;> rw [e]
  · exact h
  · exact inv_raiseFatal h ho rfl
  · exact inv_push h ho hroom

theorem inv_timeoutStep {s : State} (h : Inv s) : Inv (timeoutStep s) := by
  obtain ⟨hw, -, -, e⟩ | ⟨-, e⟩ := timeoutStep_cases s <;> rw [e]
  · exact inv_raiseFatal h (rxOpen_of_isWait hw) rfl
  · exact h

theorem inv_resetBlock {s : State} (h : Inv s) : Inv s.resetBlock :=
  inv_iff.mpr ⟨{
    fb_wf := rfl
    depth_pos := h.depth_pos
    fifo_le := Nat.zero_le _
    fatal_fifo := fun _ => rfl
    fault_clear := fun _ => ⟨rfl, rfl, rfl⟩
    fault_set := nofun
    byte_bad := nofun
    byte_device := nofun
    byte_other := fun _ => rfl
    latch_val := fun _ => rfl
    latch_blank := fun _ => rfl },
  { fatal_iff := rfl, conn_iff := rfl, txcnt_zero := fun _ => rfl }⟩

/-! ### The Engine -/

/-- A WAIT step keeps the invariant if its success action does, on the popped FIFO (R211). -/
theorem inv_waitStep {s : State} {success : State → State} (h : Inv s) (hw : s.phase.isWait = true)
    (hs : ∀ rest, Inv (s.setRxFifo rest) → Inv (success (s.setRxFifo rest))) : Inv (waitStep s success) := by
  obtain ⟨-, e⟩ | ⟨b, rest, hq, ⟨-, e⟩ | ⟨-, hE, e⟩ | ⟨-, hE, e⟩⟩ := waitStep_cases s success <;> rw [e]
  · exact h
  · exact hs rest (inv_pop h hq)
  · exact inv_raiseFatal (inv_pop h hq) (rxOpen_of_isWait hw) hE
  · exact inv_raiseFatal (inv_pop h hq) (rxOpen_of_isWait hw) hE

/-- A socket frame has no 0x00 byte (R117). -/
theorem encodeFrame_socket_all_ne_zero (S : Nat → Rgb) : (encodeFrame .socket S).toList.all (· != 0) = true := by
  refine List.all_eq_true.mpr fun b hb => bne_iff_ne.mpr ?_
  obtain ⟨q, -, hq⟩ := mem_encodeFrame.mp hb
  simp only [pixelBytes, List.mem_cons, List.not_mem_nil, or_false] at hq
  obtain rfl | rfl | rfl := hq <;> exact substZero_ne_zero _

/-- A consume step starts a cycle with the snapshot's frame in flight, or raises UNSET_PIXEL (R190). -/
theorem inv_consume {s : State} (h : Inv s) (hp : s.phase = .idle) : Inv (consume s) := by
  obtain ⟨-, e⟩ | ⟨-, e⟩ := consume_cases s <;> rw [e]
  · have hidle := h.fits hp
    have hsnap (hv : s.variant = .socket) : (encodeFrame s.variant s.fb.rgb).toList.all (· != 0) = true := by
      rw [hv]; exact encodeFrame_socket_all_ne_zero _
    refine RegInv.enter { h with } ?_
    split
    · next hv => exact {
        fatal_iff := hidle.fatal_iff, conn_iff := hidle.conn_iff, socket_only := fun _ => hv
        txcnt_zero := fun _ => rfl, snap_nonzero := fun _ => hsnap }
    · exact {
        fatal_iff := hidle.fatal_iff, conn_iff := hidle.conn_iff
        txcnt_zero := fun _ => rfl, snap_nonzero := fun _ => hsnap }
  · exact inv_raiseFatal (inv_setReady h false) (by rw [State.setReady_phase, hp]; rfl) rfl

theorem inv_idleStep {s : State} (h : Inv s) (hp : s.phase = .idle) : Inv (idleStep s) := by
  obtain ⟨rest, -, hq, e⟩ | ⟨b, rest, -, hq, -, e⟩ | ⟨-, -, e⟩ | ⟨-, -, e⟩ := idleStep_cases s <;> rw [e]
  · exact inv_raiseFatal (inv_pop h hq) (by rw [State.setRxFifo_phase, hp]; rfl) rfl
  · exact inv_pop h hq
  · exact inv_consume h hp
  · exact h

/-- A frame byte leaves TXCNT 0 exactly where it leaves TX_FRAME (R196). -/
theorem inv_frameStep {s : State} (h : Inv s) (hp : s.phase = .txFrame) : Inv (frameStep s) := by
  have hframe := h.fits hp
  unfold frameStep
  split
  · refine RegInv.enter { h with } ?_
    split
    · next hv => exact {
        fatal_iff := hframe.fatal_iff, conn_iff := hframe.conn_iff, socket_only := fun _ => hv
        txcnt_zero := fun _ => rfl, snap_nonzero := fun _ => hframe.snap_nonzero rfl }
    · exact { fatal_iff := hframe.fatal_iff, conn_iff := hframe.conn_iff, txcnt_zero := fun _ => rfl }
  · exact { h with txcnt_zero := fun hne => absurd hp hne }

/-- HS_WAIT_S moves on to the Go token of the variant (R186). -/
theorem inv_leave_hsWaitS {s : State} (h : Inv s) (hp : s.phase = .hsWaitS) :
    Inv (s.setPhase (if s.variant = .socket then .hsG0 else .hsG1)) := by
  split
  · next hv =>
      have hwait := h.fits hp
      exact h.reg.enter {
        fatal_iff := hwait.fatal_iff, conn_iff := hwait.conn_iff, socket_only := fun _ => hv
        txcnt_zero := fun _ => hwait.txcnt_zero nofun }
  · exact h.moveTo hp (by decide)

/-- HS_WAIT_A ends the handshake with CONN = 1 (R186). -/
theorem inv_leave_hsWaitA {s : State} (h : Inv s) (hp : s.phase = .hsWaitA) : Inv ((s.setConn true).setPhase .idle) :=
  have hwait := h.fits hp
  RegInv.enter { h with } {
    fatal_iff := hwait.fatal_iff, conn_iff := rfl, txcnt_zero := fun _ => hwait.txcnt_zero nofun }

/-- TX_WAIT_A starts the frame: TXCNT is 0 in both phases (R192). -/
theorem inv_leave_txWaitA {s : State} (h : Inv s) (hp : s.phase = .txWaitA) : Inv ((s.setTxcnt 0).setPhase .txFrame) :=
  RegInv.enter { h with } { (h.fits hp).mono (q := .txFrame) (by decide) with txcnt_zero := fun _ => rfl }

/-- EF_CMD awaits an acknowledgement of every command but `Z` (R198). -/
theorem inv_leave_efCmd {s : State} (h : Inv s) (hp : s.phase = .efCmd) :
    Inv (s.setPhase (if s.efCode = char .Z then .idle else .efWaitA1)) := by
  split
  · exact h.moveTo hp (by decide)
  · next hZ =>
      have hcmd := h.fits hp
      exact h.reg.enter {
        fatal_iff := hcmd.fatal_iff, conn_iff := hcmd.conn_iff, serial_only := fun _ => hcmd.serial_only rfl
        txcnt_zero := fun _ => hcmd.txcnt_zero nofun, effect_code := fun _ => hcmd.effect_code rfl
        effect_ack := fun _ _ => hZ }

/-- EF_WAIT_A1 moves on to the value byte if the latch has one (R199). -/
theorem inv_leave_efWaitA1 {s : State} (h : Inv s) (hp : s.phase = .efWaitA1) :
    Inv (s.setPhase (if s.efHasVal then .efVal else .efWaitD)) := by
  split
  · next hval =>
      have hwait := h.fits hp
      exact h.reg.enter {
        fatal_iff := hwait.fatal_iff, conn_iff := hwait.conn_iff, serial_only := fun _ => hwait.serial_only rfl
        txcnt_zero := fun _ => hwait.txcnt_zero nofun, effect_code := fun _ => hwait.effect_code rfl
        effect_ack := fun _ _ => hwait.effect_ack rfl nofun, effect_value := fun _ => hval }
  · exact h.moveTo hp (by decide)

/-- The Engine's step keeps the invariant, phase by phase: a SEND phase moves to one that asks no more, a
WAIT phase does so after its byte is popped, and the moves that ask more have their lemmas above. -/
theorem inv_engineStep {s : State} (h : Inv s) : Inv (engineStep s) := by
  cases hp : s.phase
  case disc | halt => simpa only [engineStep, hp] using h
  case idle => rw [engineStep_idle hp]; exact inv_idleStep h hp
  case txFrame => rw [engineStep_txFrame hp]; exact inv_frameStep h hp
  case hsWaitS => rw [engineStep_hsWaitS hp]; exact inv_waitStep h (by rw [hp]; rfl) fun _ hr => inv_leave_hsWaitS hr hp
  case hsWaitA => rw [engineStep_hsWaitA hp]; exact inv_waitStep h (by rw [hp]; rfl) fun _ hr => inv_leave_hsWaitA hr hp
  case txWaitA => rw [engineStep_txWaitA hp]; exact inv_waitStep h (by rw [hp]; rfl) fun _ hr => inv_leave_txWaitA hr hp
  case txWaitD => rw [engineStep_txWaitD hp]; exact inv_waitStep h (by rw [hp]; rfl) fun _ hr => hr.moveTo hp (by decide)
  case efWaitA1 => rw [engineStep_efWaitA1 hp]; exact inv_waitStep h (by rw [hp]; rfl) fun _ hr => inv_leave_efWaitA1 hr hp
  case efWaitA2 => rw [engineStep_efWaitA2 hp]; exact inv_waitStep h (by rw [hp]; rfl) fun _ hr => hr.moveTo hp (by decide)
  case efWaitD => rw [engineStep_efWaitD hp]; exact inv_waitStep h (by rw [hp]; rfl) fun _ hr => hr.moveTo hp (by decide)
  case hsK0 => rw [engineStep_hsK0 hp]; exact (inv_emit h _).moveTo hp (by decide)
  case hsK1 => rw [engineStep_hsK1 hp]; exact (inv_emit h _).moveTo hp (by decide)
  case hsG0 => rw [engineStep_hsG0 hp]; exact (inv_emit h _).moveTo hp (by decide)
  case hsG1 => rw [engineStep_hsG1 hp]; exact (inv_emit h _).moveTo hp (by decide)
  case txG0 => rw [engineStep_txG0 hp]; exact (inv_emit h _).moveTo hp (by decide)
  case txG1 => rw [engineStep_txG1 hp]; exact (inv_emit h _).moveTo hp (by decide)
  case efCmd => rw [engineStep_efCmd hp]; exact inv_leave_efCmd (inv_emit h _) hp
  case efVal => rw [engineStep_efVal hp]; exact (inv_emit h _).moveTo hp (by decide)
  case dcQ0 => rw [engineStep_dcQ0 hp]; exact (inv_emit h _).moveTo hp (by decide)
  case dcQ1 => rw [engineStep_dcQ1 hp]; exact (inv_emit h _).moveTo hp (by decide)
  case fltZ => rw [engineStep_fltZ hp]; exact (inv_emit h _).moveTo hp (by decide)
  case fltQ0 => rw [engineStep_fltQ0 hp]; exact (inv_emit h _).moveTo hp (by decide)
  case fltQ1 => rw [engineStep_fltQ1 hp]; exact (inv_emit h _).moveTo hp (by decide)

/-! ### The Producer -/

/-- An accepted CONNECT clears the FIFO and starts the variant's handshake (R180). -/
theorem inv_start_handshake {s : State} (h : Inv s) (hp : s.phase = .disc) :
    Inv ((s.setRxFifo []).setPhase (if s.variant = .socket then .hsK0 else .hsWaitS)) := by
  have hdisc := h.fits hp
  refine RegInv.enter { h with fifo_le := Nat.zero_le _, fatal_fifo := fun _ => rfl } ?_
  split
  · next hv => exact {
      fatal_iff := hdisc.fatal_iff, conn_iff := hdisc.conn_iff, socket_only := fun _ => hv
      txcnt_zero := fun _ => hdisc.txcnt_zero nofun }
  · exact {
      fatal_iff := hdisc.fatal_iff, conn_iff := hdisc.conn_iff, txcnt_zero := fun _ => hdisc.txcnt_zero nofun }

/-- An accepted DISCONNECT clears CONN and starts the variant's Quit (R182). -/
theorem inv_start_disconnect {s : State} (h : Inv s) (hp : s.phase = .idle) :
    Inv ((s.setConn false).setPhase (if s.variant = .socket then .dcQ0 else .disc)) := by
  have hidle := h.fits hp
  refine RegInv.enter { h with } ?_
  split
  · next hv => exact {
      fatal_iff := hidle.fatal_iff, conn_iff := rfl, socket_only := fun _ => hv
      txcnt_zero := fun _ => hidle.txcnt_zero nofun }
  · exact { fatal_iff := hidle.fatal_iff, conn_iff := rfl, txcnt_zero := fun _ => hidle.txcnt_zero nofun }

theorem eq_serial_of_ne_socket {v : Variant} (hv : v ≠ .socket) : v = .serial := by
  cases v with
  | serial => rfl
  | socket => exact absurd rfl hv

/-- An accepted EFFECT latches its command and starts it (R183). -/
theorem inv_start_effect {s : State} {code : Byte} {hasval : Bool} (val : Byte) (h : Inv s) (hp : s.phase = .idle)
    (hv : s.variant = .serial) (hcode : code = char .B ∨ code = char .T ∨ code = char .Z)
    (hblank : code = char .Z → hasval = false) : Inv ((s.latchEffect code hasval val).setPhase .efCmd) := by
  have hidle := h.fits hp
  refine RegInv.enter { h with latch_val := ?_, latch_blank := hblank } {
    fatal_iff := hidle.fatal_iff, conn_iff := hidle.conn_iff, serial_only := fun _ => hv
    txcnt_zero := fun _ => hidle.txcnt_zero nofun, effect_code := fun _ => hcode
    effect_ack := fun _ hne => absurd rfl hne }
  rintro (rfl : hasval = false)
  rfl

theorem inv_execConnect {s t : State} (h : Inv s) (hx : execConnect s = .next t) : Inv t := by
  cases hx
  split
  · exact inv_reject h _
  split
  · exact inv_reject h _
  · next hp => exact inv_accept (inv_start_handshake h (not_not.mp hp))

theorem inv_execDisconnect {s t : State} (h : Inv s) (hx : execDisconnect s = .next t) : Inv t := by
  cases hx
  split
  · exact inv_reject h _
  split
  · exact inv_reject h _
  split
  · exact inv_reject h _
  · next hp => exact inv_accept (inv_start_disconnect h (not_not.mp hp))

theorem inv_execEffect {s t : State} {code : Byte} {hasval : Bool} {val : Byte} (h : Inv s)
    (hx : execEffect code hasval val s = .next t) : Inv t := by
  cases hx
  split_ifs with _ hv hcode hblank _ hp
  case neg =>
    refine inv_accept (inv_start_effect val h (not_not.mp hp) (eq_serial_of_ne_socket hv) (by tauto) fun hZ => ?_)
    exact Bool.eq_false_of_not_eq_true fun hval => hblank ⟨hZ, hval⟩
  all_goals exact inv_reject h _

theorem inv_execSetReady {s t : State} (h : Inv s) (hx : execSetReady s = .next t) : Inv t := by
  cases hx
  split
  · exact inv_accept h
  · exact inv_accept (inv_setReady h true)

theorem inv_execRdpx {s t : State} {p : Byte} (h : Inv s) (hx : execRdpx p s = .next t) : Inv t := by
  cases hx
  split
  · exact inv_okay h _
  · exact inv_okay (inv_drawn h) _

/-- WRPX keeps the Frame Buffer's canonical form (R145). -/
theorem inv_execWrpx {s t : State} {p r g b : Byte} (h : Inv s) (hx : execWrpx p r g b s = .next t) : Inv t := by
  cases hx
  exact inv_okay (s := s.setFb _) { h with fb_wf := Memory.wf_writePixel _ h.fb_wf p.isLt } _

/-- WRCONFIG writes VARIANT in DISC alone, a phase of both variants (R150). -/
theorem inv_execWrconfig {s t : State} {v : Variant} (h : Inv s) (hx : execWrconfig v s = .next t) : Inv t := by
  cases hx
  split
  · next hp =>
      have hdisc := h.fits hp
      refine inv_accept (s := s.setVariant v) (inv_iff.mpr ⟨{ h with }, ?_⟩)
      rw [State.setVariant_phase, hp]
      exact {
        fatal_iff := hdisc.fatal_iff, conn_iff := hdisc.conn_iff, txcnt_zero := fun _ => hdisc.txcnt_zero nofun }
  · exact inv_reject h _

/-- Every producer operation keeps the invariant. -/
theorem inv_exec_producer {i : Instr} {s t : State} (hi : isProducerOp i = true) (h : Inv s) (hx : exec i s = .next t) :
    Inv t := by
  cases i
  case busErr => cases hx; exact inv_busError h
  case wrpx => exact inv_execWrpx h hx
  case rdpx => exact inv_execRdpx h hx
  case setReady => exact inv_execSetReady h hx
  case clearReady => cases hx; exact inv_accept (inv_setReady h false)
  case connect => exact inv_execConnect h hx
  case disconnect => exact inv_execDisconnect h hx
  case effect => exact inv_execEffect h hx
  case cmdIllegal => cases hx; exact inv_reject h _
  case wrconfig => exact inv_execWrconfig h hx
  case rdcmd | rdstatus | rdconfig | rdfault => cases hx; exact inv_okay h _
  all_goals exact absurd hi Bool.false_ne_true

/-- Settles O48: every agent's step, and reset, keeps the invariant. -/
theorem everyStepKeepsTheInvariant : Obligations.EveryStepKeepsTheInvariant := by
  intro s t h hstep
  have hs := inv_afterFetch h
  obtain ⟨w, -, hx⟩ | ⟨-, rfl⟩ | ⟨v, bytes, -, rfl | ⟨-, rfl⟩⟩ | ⟨b, -, rfl⟩ | ⟨-, rfl⟩ | ⟨-, rfl⟩ := step_cases hstep
  · exact inv_exec_producer (isProducerOp_decodeBus w) hs hx
  · exact inv_engineStep hs
  · exact hs
  · exact inv_engineStep hs
  · exact inv_deliver b hs
  · exact inv_timeoutStep hs
  · exact inv_resetBlock hs

end Sys2Proof.Machine
end

section
/-! Proofs of the family 10_state.md, views: the fields of STATUS and the tables of PHASE (R28, R31, R32, R39). -/

namespace Sys2Proof.Machine

/-! ### The fields of STATUS -/

/-- STATUS above its four flags: CMDERR, ACKCODE, PHASE and LSTATE, with their reserved bits (R28). -/
def State.statusCodes (s : State) : BitVec (5 + 3 + 8 + 5 + 5 + 2) :=
  (0 : BitVec 5) ++ s.cmdErr.code ++ s.phase.ackCode ++ (0 : BitVec 5) ++ s.phase.code ++ s.phase.lstate

section
variable (s : State)

theorem statusWord_ready : s.statusWord.getLsbD 0 = s.ready := getLsbD_append_flag _ _

theorem statusWord_conn : s.statusWord.getLsbD 1 = s.conn :=
  (getLsbD_append_high _ (BitVec.ofBool s.ready) 0).trans (getLsbD_append_flag _ _)

theorem statusWord_fatal : s.statusWord.getLsbD 2 = s.fatal :=
  (getLsbD_append_high _ (BitVec.ofBool s.ready) 1).trans <|
    (getLsbD_append_high _ (BitVec.ofBool s.conn) 0).trans (getLsbD_append_flag _ _)

theorem statusWord_busy : s.statusWord.getLsbD 3 = s.phase.busy :=
  (getLsbD_append_high _ (BitVec.ofBool s.ready) 2).trans <|
    (getLsbD_append_high _ (BitVec.ofBool s.conn) 1).trans <|
      (getLsbD_append_high _ (BitVec.ofBool s.fatal) 0).trans (getLsbD_append_flag _ _)

/-- A field of STATUS above the flags is the field of the codes four bits lower. -/
theorem statusWord_above_flags (k l : Nat) :
    s.statusWord.extractLsb' (1 + (1 + (1 + (1 + k)))) l = s.statusCodes.extractLsb' k l :=
  (extractLsb'_append_high _ (BitVec.ofBool s.ready) _ l).trans <|
    (extractLsb'_append_high _ (BitVec.ofBool s.conn) _ l).trans <|
      (extractLsb'_append_high _ (BitVec.ofBool s.fatal) _ l).trans <|
        extractLsb'_append_high s.statusCodes (BitVec.ofBool s.phase.busy) k l

theorem statusWord_lstate : s.statusWord.extractLsb' 4 2 = s.phase.lstate :=
  (statusWord_above_flags s 0 2).trans (extractLsb'_append_low _ _)

/-- A field of STATUS above LSTATE and PHASE. -/
theorem statusWord_above_phase (k l : Nat) :
    s.statusWord.extractLsb' (1 + (1 + (1 + (1 + (2 + (5 + k)))))) l =
      ((0 : BitVec 5) ++ s.cmdErr.code ++ s.phase.ackCode ++ (0 : BitVec 5)).extractLsb' k l :=
  (statusWord_above_flags s _ l).trans <|
    (extractLsb'_append_high _ s.phase.lstate _ l).trans (extractLsb'_append_high _ s.phase.code k l)

theorem statusWord_phase : s.statusWord.extractLsb' 6 5 = s.phase.code :=
  (statusWord_above_flags s 2 5).trans <|
    (extractLsb'_append_high _ s.phase.lstate 0 5).trans (extractLsb'_append_low _ _)

theorem statusWord_reserved_low : s.statusWord.extractLsb' 11 5 = 0 :=
  (statusWord_above_phase s 0 5).trans (extractLsb'_append_low _ _)

theorem statusWord_ackCode : s.statusWord.extractLsb' 16 8 = s.phase.ackCode :=
  (statusWord_above_phase s 5 8).trans <|
    (extractLsb'_append_high _ (0 : BitVec 5) 0 8).trans (extractLsb'_append_low _ _)

theorem statusWord_cmdErr : s.statusWord.extractLsb' 24 3 = s.cmdErr.code :=
  (statusWord_above_phase s 13 3).trans <|
    (extractLsb'_append_high _ (0 : BitVec 5) 8 3).trans <|
      (extractLsb'_append_high _ s.phase.ackCode 0 3).trans (extractLsb'_append_low _ _)

theorem statusWord_reserved_high : s.statusWord.extractLsb' 27 5 = 0 :=
  (statusWord_above_phase s 16 5).trans <|
    (extractLsb'_append_high _ (0 : BitVec 5) 11 5).trans <|
      (extractLsb'_append_high _ s.phase.ackCode 3 5).trans <|
        (extractLsb'_append_high _ s.cmdErr.code 0 5).trans BitVec.extractLsb'_eq_self

end

/-- Settles O15: each field of STATUS is read back from its place in the word. -/
theorem rdstatusReturnsLiveFields : Obligations.RdstatusReturnsLiveFields :=
  ⟨fun _ => ⟨rfl, rfl⟩, fun s => ⟨s.statusWord, rfl, statusWord_ready s, statusWord_conn s, statusWord_fatal s,
    statusWord_busy s, statusWord_lstate s, statusWord_phase s, statusWord_reserved_low s, statusWord_ackCode s,
    statusWord_cmdErr s, statusWord_reserved_high s⟩⟩

/-! ### The views of PHASE -/

/-- Settles O10: the tables of R30 to R32, R35, R39 and R240, phase by phase. -/
theorem linkStateViews : Obligations.LinkStateViews := by
  refine ⟨fun p => ?_, rfl, rfl, rfl, rfl, rfl⟩
  cases p <;> decide

end Sys2Proof.Machine
end

section
/-! Proofs of the family 10_state.md, writers: who writes the Frame Buffer, SNAP and VARIANT (R24, R27, R29). -/

namespace Sys2Proof.Machine

/-! ### What the Engine, the Device and the Timer leave to the Producer -/

/-- From s to t no register changes that only the Producer and reset write (R24, R27, R35, R38). -/
structure KeepsProducerRegisters (s t : State) : Prop where
  fb : t.fb = s.fb
  variant : t.variant = s.variant
  cmdErr : t.cmdErr = s.cmdErr
  efCode : t.efCode = s.efCode
  efHasVal : t.efHasVal = s.efHasVal
  efVal : t.efVal = s.efVal

theorem KeepsProducerRegisters.refl (s : State) : KeepsProducerRegisters s s := ⟨rfl, rfl, rfl, rfl, rfl, rfl⟩

theorem KeepsProducerRegisters.trans {s t u : State} (hst : KeepsProducerRegisters s t)
    (htu : KeepsProducerRegisters t u) : KeepsProducerRegisters s u :=
  ⟨htu.fb.trans hst.fb, htu.variant.trans hst.variant, htu.cmdErr.trans hst.cmdErr, htu.efCode.trans hst.efCode,
    htu.efHasVal.trans hst.efHasVal, htu.efVal.trans hst.efVal⟩

section
variable (s : State)

theorem afterFetch_keepsProducerRegisters : KeepsProducerRegisters s s.afterFetch := by
  constructor <;> simp

theorem raiseFatal_keepsProducerRegisters (c : Cause) (b : Byte) : KeepsProducerRegisters s (s.raiseFatal c b) := by
  constructor <;> simp

theorem waitStep_keepsProducerRegisters {success : State → State} (hs : ∀ u, KeepsProducerRegisters u (success u)) :
    KeepsProducerRegisters s (waitStep s success) := by
  obtain ⟨-, e⟩ | ⟨b, rest, -, ⟨-, e⟩ | ⟨-, -, e⟩ | ⟨-, -, e⟩⟩ := waitStep_cases s success <;> rw [e]
  · exact .refl s
  · exact { hs (s.setRxFifo rest) with }
  · exact { raiseFatal_keepsProducerRegisters (s.setRxFifo rest) .deviceError b with }
  · exact { raiseFatal_keepsProducerRegisters (s.setRxFifo rest) .badByte b with }

theorem consume_keepsProducerRegisters : KeepsProducerRegisters s (consume s) := by
  obtain ⟨-, e⟩ | ⟨-, e⟩ := consume_cases s <;> rw [e]
  · exact { KeepsProducerRegisters.refl s with }
  · exact { raiseFatal_keepsProducerRegisters (s.setReady false) .unsetPixel 0 with }

theorem idleStep_keepsProducerRegisters : KeepsProducerRegisters s (idleStep s) := by
  obtain ⟨rest, -, -, e⟩ | ⟨b, rest, -, -, -, e⟩ | ⟨-, -, e⟩ | ⟨-, -, e⟩ := idleStep_cases s <;> rw [e]
  · exact { raiseFatal_keepsProducerRegisters (s.setRxFifo rest) .deviceError (char .E) with }
  · exact { KeepsProducerRegisters.refl s with }
  · exact consume_keepsProducerRegisters s
  · exact .refl s

theorem engineStep_keepsProducerRegisters : KeepsProducerRegisters s (engineStep s) := by
  obtain ⟨-, success, e, hsuccess⟩ | ⟨-, e⟩ | ⟨-, b, p, n, e⟩ | ⟨-, e⟩ := engineStep_cases s <;> rw [e]
  · refine waitStep_keepsProducerRegisters s fun u => ?_
    obtain ⟨p, hu | hu | hu⟩ := hsuccess u <;> rw [hu] <;> exact { KeepsProducerRegisters.refl u with }
  · exact idleStep_keepsProducerRegisters s
  · exact { KeepsProducerRegisters.refl s with }
  · exact .refl s

theorem deliver_keepsProducerRegisters (b : Byte) : KeepsProducerRegisters s (deliver s b) := by
  obtain ⟨-, e⟩ | ⟨-, -, e⟩ | ⟨-, -, e⟩ := deliver_cases s b <;> rw [e]
  · exact .refl s
  · exact raiseFatal_keepsProducerRegisters s _ _
  · exact { KeepsProducerRegisters.refl s with }

theorem timeoutStep_keepsProducerRegisters : KeepsProducerRegisters s (timeoutStep s) := by
  obtain ⟨-, -, -, e⟩ | ⟨-, e⟩ := timeoutStep_cases s <;> rw [e]
  · exact raiseFatal_keepsProducerRegisters s _ _
  · exact .refl s

theorem waitStep_snap {success : State → State} (hs : ∀ u : State, (success u).snap = u.snap) :
    (waitStep s success).snap = s.snap := by
  obtain ⟨-, e⟩ | ⟨b, rest, -, ⟨-, e⟩ | ⟨-, -, e⟩ | ⟨-, -, e⟩⟩ := waitStep_cases s success <;> simp [e, hs]

/-- The Engine's step writes SNAP only where it consumes the flag (R29, R190). -/
theorem engineStep_snap_cases : (engineStep s).snap = s.snap ∨ (s.phase = .idle ∧ s.ready = true) := by
  obtain ⟨-, success, e, hsuccess⟩ | ⟨hp, e⟩ | ⟨-, b, p, n, e⟩ | ⟨-, e⟩ := engineStep_cases s <;> rw [e]
  · have keeps (u : State) : (success u).snap = u.snap := by
      obtain ⟨p, hu | hu | hu⟩ := hsuccess u <;> simp [hu]
    exact Or.inl (waitStep_snap s keeps)
  · obtain ⟨rest, -, -, e⟩ | ⟨b, rest, -, -, -, e⟩ | ⟨-, hr, e⟩ | ⟨-, -, e⟩ := idleStep_cases s
    · exact Or.inl (by simp [e])
    · exact Or.inl (by simp [e])
    · exact Or.inr ⟨hp, hr⟩
    · exact Or.inl (by rw [e])
  · exact Or.inl rfl
  · exact Or.inl rfl

end

@[simp] theorem deliver_snap (s : State) (b : Byte) : (deliver s b).snap = s.snap := by
  obtain ⟨-, e⟩ | ⟨-, -, e⟩ | ⟨-, -, e⟩ := deliver_cases s b <;> simp [e]

@[simp] theorem timeoutStep_snap (s : State) : (timeoutStep s).snap = s.snap := by
  obtain ⟨-, -, -, e⟩ | ⟨-, e⟩ := timeoutStep_cases s <;> simp [e]

/-! ### Whole steps -/

/-- A step is a producer operation, or reset, or writes no register of the Producer's. -/
theorem step_producer_or_rst_or_keeps {s t : State} (h : step s = .next t) :
    (∃ w, s.nextEvent = .agent (.producer w) ∧ exec (decodeBus w) s.afterFetch = .next t) ∨
    s.nextEvent = .agent .rst ∨ KeepsProducerRegisters s t := by
  have hfetch := afterFetch_keepsProducerRegisters s
  obtain hw | ⟨-, rfl⟩ | ⟨v, bytes, -, rfl | ⟨-, rfl⟩⟩ | ⟨b, -, rfl⟩ | ⟨-, rfl⟩ | ⟨he, -⟩ := step_cases h
  · exact Or.inl hw
  · exact Or.inr (Or.inr (hfetch.trans (engineStep_keepsProducerRegisters _)))
  · exact Or.inr (Or.inr hfetch)
  · exact Or.inr (Or.inr (hfetch.trans (engineStep_keepsProducerRegisters _)))
  · exact Or.inr (Or.inr (hfetch.trans (deliver_keepsProducerRegisters _ b)))
  · exact Or.inr (Or.inr (hfetch.trans (timeoutStep_keepsProducerRegisters _)))
  · exact Or.inr (Or.inl he)

/-- Of the producer operations, only WRPX writes the Frame Buffer, and only WRCONFIG in DISC writes VARIANT
(R24, R27, R145, R150). -/
theorem exec_producer_fb_variant {i : Instr} {s t : State} (hi : isProducerOp i = true) (h : exec i s = .next t) :
    (t.fb = s.fb ∨ ∃ p r g b, i = .wrpx p r g b) ∧
    (t.variant = s.variant ∨ (s.phase = .disc ∧ ∃ v, i = .wrconfig v)) := by
  cases i
  case wrpx p r g b => cases h; exact ⟨Or.inr ⟨p, r, g, b, rfl⟩, Or.inl rfl⟩
  case wrconfig v =>
    cases h
    split
    · next hp => exact ⟨Or.inl rfl, Or.inr ⟨hp, v, rfl⟩⟩
    · exact ⟨Or.inl rfl, Or.inl rfl⟩
  all_goals
    cases hi <;> cases h
    repeat' split
    all_goals exact ⟨Or.inl rfl, Or.inl rfl⟩

/-- A step that changes SNAP is reset, or an Engine step that consumes the flag (R29). -/
theorem step_snap_cases {s t : State} (h : step s = .next t) :
    t.snap = s.snap ∨ s.nextEvent = .agent .rst ∨
      (s.nextEvent = .agent .engine ∧ s.phase = .idle ∧ s.ready = true) := by
  have hengine : (engineStep s.afterFetch).snap = s.snap ∨ (s.phase = .idle ∧ s.ready = true) := by
    simpa using engineStep_snap_cases s.afterFetch
  obtain ⟨w, -, hx⟩ | ⟨he, rfl⟩ | ⟨v, bytes, -, rfl | ⟨hsend, rfl⟩⟩ | ⟨b, -, rfl⟩ | ⟨-, rfl⟩ | ⟨he, -⟩ := step_cases h
  · obtain ⟨hsnap, -⟩ := exec_producer_frame (isProducerOp_decodeBus w) hx
    exact Or.inl (by rw [hsnap, State.afterFetch_snap])
  · exact hengine.imp_right fun hidle => Or.inr ⟨he, hidle⟩
  · exact Or.inl s.afterFetch_snap
  · refine hengine.imp_right fun ⟨hp, _⟩ => ?_
    rw [hp] at hsend
    exact absurd hsend (by decide)
  · exact Or.inl (by simp)
  · exact Or.inl (by simp)
  · exact Or.inr (Or.inl he)

/-- Settles O53: of all entries but reset, only WRPX writes FB and only the consume step writes SNAP. -/
theorem buffersHaveOneWriter : Obligations.BuffersHaveOneWriter := by
  intro s t h hrst
  constructor
  · intro hfb
    obtain ⟨w, he, hx⟩ | he | hkeeps := step_producer_or_rst_or_keeps h
    · obtain hsame | ⟨p, r, g, b, hi⟩ := (exec_producer_fb_variant (isProducerOp_decodeBus w) hx).1
      · exact absurd (hsame.trans s.afterFetch_fb) hfb
      · exact ⟨p, r, g, b, by rw [he, decode, hi]⟩
    · exact absurd he hrst
    · exact absurd hkeeps.fb hfb
  · intro hsnap
    exact ((step_snap_cases h).resolve_left hsnap).resolve_left hrst

/-- Settles O55: of all entries but reset, only WRCONFIG writes VARIANT, and it does so in DISC. -/
theorem variantChangesOnlyInDisc : Obligations.VariantChangesOnlyInDisc := by
  intro s t h hvariant
  obtain ⟨w, he, hx⟩ | he | hkeeps := step_producer_or_rst_or_keeps h
  · obtain hsame | ⟨hp, v, hi⟩ := (exec_producer_fb_variant (isProducerOp_decodeBus w) hx).2
    · exact absurd (hsame.trans s.afterFetch_variant) hvariant
    · exact Or.inr ⟨s.afterFetch_phase ▸ hp, v, by rw [he, decode, hi]⟩
  · exact Or.inl he
  · exact absurd hkeeps.variant hvariant

end Sys2Proof.Machine
end

section
/-! Proofs of the family 30_encoding.md, transactions: the decoder answers exactly the row of R83 that a
transaction selects (R83, R84, R87), and does not look at the ignored fields (R85). -/

namespace Sys2Proof.Machine

/-! ### The address windows of R83 -/

/-- Alignment, as a number (R83, last row). -/
theorem addr_aligned_iff (a : Addr) : a.extractLsb' 0 2 = 0 ↔ a.toNat % 4 = 0 := by
  rw [← BitVec.toNat_inj]
  simp

/-- The Frame Buffer window, as a number (R64). -/
theorem addr_inWindow_iff (a : Addr) : a.extractLsb' 10 2 = 0 ↔ a.toNat < 0x400 := by
  rw [← BitVec.toNat_inj]
  simp [BitVec.extractLsb'_toNat, Nat.shiftRight_eq_div_pow]
  omega

/-- An aligned address above the Frame Buffer window that is no register's lies above the registers. -/
theorem addr_unmapped {a : Addr} (hlow : a.extractLsb' 0 2 = 0) (hhigh : a.extractLsb' 10 2 ≠ 0) (h0 : a ≠ 0x400)
    (h4 : a ≠ 0x404) (h8 : a ≠ 0x408) (hC : a ≠ 0x40C) : 0x410 ≤ a.toNat := by
  rw [addr_aligned_iff] at hlow
  rw [Ne, addr_inWindow_iff] at hhigh
  bv_omega

/-! ### The decoder, row by row -/

theorem decodeTransaction_writePixel {a : Addr} (d : Data) (hhigh : a.extractLsb' 10 2 = 0) (hlow : a.extractLsb' 0 2 = 0) :
    decodeTransaction true a d =
      .wrpx (a.extractLsb' 2 8) (d.extractLsb' 16 8) (d.extractLsb' 8 8) (d.extractLsb' 0 8) := by
  simp [decodeTransaction, hhigh, hlow]

theorem decodeTransaction_readPixel {a : Addr} (d : Data) (hhigh : a.extractLsb' 10 2 = 0) (hlow : a.extractLsb' 0 2 = 0) :
    decodeTransaction false a d = .rdpx (a.extractLsb' 2 8) := by
  simp [decodeTransaction, hhigh, hlow]

theorem decodeTransaction_writeCmd (d : Data) : decodeTransaction true 0x400 d = decodeCmd d := rfl

theorem decodeTransaction_writeConfig (d : Data) :
    decodeTransaction true 0x408 d = .wrconfig (variantOfBit (d.getLsbD 0)) := rfl

theorem decodeTransaction_unmapped {w : Bool} {a : Addr} (d : Data) (h : 0x410 ≤ a.toNat) :
    decodeTransaction w a d = .busErr w a d := by
  have hhigh : a.extractLsb' 10 2 ≠ 0 := by rw [Ne, addr_inWindow_iff]; omega
  have hne (r : Addr) (hr : r.toNat < 0x410) : a ≠ r := by rintro rfl; omega
  by_cases hlow : a.extractLsb' 0 2 = 0
  · rw [decodeTransaction, if_neg (not_not_intro hlow), if_neg hhigh, if_neg (hne _ (by decide)),
      if_neg (hne _ (by decide)), if_neg (hne _ (by decide)), if_neg (hne _ (by decide))]
  · exact if_pos hlow

theorem decodeTransaction_busErr {w : Bool} {a : Addr} (d : Data)
    (h : a.extractLsb' 0 2 ≠ 0 ∨ 0x410 ≤ a.toNat ∨ (w = true ∧ (a = 0x404 ∨ a = 0x40C))) :
    decodeTransaction w a d = .busErr w a d := by
  obtain hlow | habove | ⟨rfl, rfl | rfl⟩ := h
  · exact if_pos hlow
  · exact decodeTransaction_unmapped d habove
  · rfl
  · rfl

/-- An OP is undefined when it is none of the five (R83). -/
theorem undefinedOp_iff (op : Byte) :
    ¬ (1 ≤ op.toNat ∧ op.toNat ≤ 5) ↔ op ≠ 0x01 ∧ op ≠ 0x02 ∧ op ≠ 0x03 ∧ op ≠ 0x04 ∧ op ≠ 0x05 := by
  bv_omega

/-- A write to CMD selects the row of its OP. -/
theorem selects_decodeCmd (d : Data) : Selects true 0x400 d (decodeCmd d) := by
  simp only [decodeCmd]
  repeat' split
  · exact ⟨rfl, rfl, ‹_›⟩
  · exact ⟨rfl, rfl, ‹_›⟩
  · exact ⟨rfl, rfl, ‹_›⟩
  · exact ⟨rfl, rfl, ‹_›⟩
  · exact ⟨rfl, rfl, ‹_›, rfl, rfl, rfl⟩
  · exact ⟨rfl, rfl, rfl, (undefinedOp_iff _).mpr ⟨‹_›, ‹_›, ‹_›, ‹_›, ‹_›⟩⟩

/-- CONFIG bit 0 as R27 reads it. -/
theorem variantOfBit_eq_socket_iff (b : Bool) : variantOfBit b = .socket ↔ b = true := by
  cases b <;> decide

/-- There are two variants, so one of them tells them apart (R2). -/
theorem variant_eq_of_socket_iff {v v' : Variant} (h : v = .socket ↔ v' = .socket) : v = v' := by
  revert h
  cases v <;> cases v' <;> decide

/-- Every transaction selects the row that the decoder answers (R83, R87). -/
theorem selects_decodeTransaction (w : Bool) (a : Addr) (d : Data) : Selects w a d (decodeTransaction w a d) := by
  by_cases hlow : a.extractLsb' 0 2 = 0
  case neg =>
    rw [decodeTransaction_busErr d (Or.inl hlow)]
    exact ⟨Or.inl hlow, rfl, rfl, rfl⟩
  by_cases hhigh : a.extractLsb' 10 2 = 0
  case pos =>
    cases w
    · rw [decodeTransaction_readPixel d hhigh hlow]
      exact ⟨rfl, hhigh, hlow, rfl⟩
    · rw [decodeTransaction_writePixel d hhigh hlow]
      exact ⟨rfl, hhigh, hlow, rfl, rfl, rfl, rfl⟩
  by_cases h0 : a = 0x400
  case pos =>
    subst h0
    cases w
    · exact ⟨rfl, rfl⟩
    · exact selects_decodeCmd d
  by_cases h4 : a = 0x404
  case pos =>
    subst h4
    cases w
    · exact ⟨rfl, rfl⟩
    · exact ⟨Or.inr (Or.inr ⟨rfl, Or.inl rfl⟩), rfl, rfl, rfl⟩
  by_cases h8 : a = 0x408
  case pos =>
    subst h8
    cases w
    · exact ⟨rfl, rfl⟩
    · exact ⟨rfl, rfl, variantOfBit_eq_socket_iff _⟩
  by_cases hC : a = 0x40C
  case pos =>
    subst hC
    cases w
    · exact ⟨rfl, rfl⟩
    · exact ⟨Or.inr (Or.inr ⟨rfl, Or.inr rfl⟩), rfl, rfl, rfl⟩
  have habove := addr_unmapped hlow hhigh h0 h4 h8 hC
  rw [decodeTransaction_unmapped d habove]
  exact ⟨Or.inr (Or.inl habove), rfl, rfl, rfl⟩

/-- The decoder answers the row that a transaction selects (R83, R87). -/
theorem decodeTransaction_of_selects {w : Bool} {a : Addr} {d : Data} {i : Instr} (h : Selects w a d i) :
    decodeTransaction w a d = i := by
  cases i
  case busErr => obtain ⟨hsel, rfl, rfl, rfl⟩ := h; exact decodeTransaction_busErr _ hsel
  case wrpx => obtain ⟨rfl, hhigh, hlow, rfl, rfl, rfl, rfl⟩ := h; exact decodeTransaction_writePixel d hhigh hlow
  case rdpx => obtain ⟨rfl, hhigh, hlow, rfl⟩ := h; exact decodeTransaction_readPixel d hhigh hlow
  case setReady | clearReady | connect | disconnect =>
    obtain ⟨rfl, rfl, hop⟩ := h
    rw [decodeTransaction_writeCmd]
    simp [decodeCmd, hop]
  case effect =>
    obtain ⟨rfl, rfl, hop, rfl, rfl, rfl⟩ := h
    rw [decodeTransaction_writeCmd]
    simp [decodeCmd, hop]
  case cmdIllegal =>
    obtain ⟨rfl, rfl, rfl, hop⟩ := h
    obtain ⟨h1, h2, h3, h4, h5⟩ := (undefinedOp_iff _).mp hop
    rw [decodeTransaction_writeCmd]
    simp only [decodeCmd, h1, h2, h3, h4, h5, if_false]
  case rdcmd | rdstatus | rdconfig | rdfault => obtain ⟨rfl, rfl⟩ := h; rfl
  case wrconfig v =>
    obtain ⟨rfl, rfl, hv⟩ := h
    rw [decodeTransaction_writeConfig]
    exact congrArg _ (variant_eq_of_socket_iff ((variantOfBit_eq_socket_iff _).trans hv.symm))
  all_goals exact h.elim

/-- A transaction decodes to i exactly when it selects i's row. -/
theorem decodeTransaction_eq_iff {w : Bool} {a : Addr} {d : Data} {i : Instr} :
    decodeTransaction w a d = i ↔ Selects w a d i :=
  ⟨fun h => h ▸ selects_decodeTransaction w a d, decodeTransaction_of_selects⟩

/-- Settles O3: `decodeTransaction` is total, and `Selects` is its graph. -/
theorem transactionSelectsExactlyOneRow : Obligations.TransactionSelectsExactlyOneRow := fun _ =>
  ⟨⟨_, rfl⟩, fun _ => (Except.ok.injEq _ _).to_iff.trans decodeTransaction_eq_iff⟩

/-! ### The ignored fields -/

/-- A command other than EFFECT has no operand beside its OP (R82, R85). -/
theorem decodeCmd_congr_op {d d' : Data} (h : d.extractLsb' 24 8 = d'.extractLsb' 24 8) (hne : d.extractLsb' 24 8 ≠ 0x05) :
    decodeCmd d = decodeCmd d' := by
  rw [h] at hne
  simp only [decodeCmd, h, hne, if_false]

theorem decodeCmd_effect (code arg1 val : Byte) :
    decodeCmd (cmdData 0x05 code arg1 val) = .effect code (arg1.getLsbD 0) val := by
  have hflag : (cmdData 0x05 code arg1 val).getLsbD 8 = arg1.getLsbD 0 := by
    rw [getLsbD_cmdData, if_neg (by omega), if_pos (by omega)]
  simp only [decodeCmd, cmdData_op, cmdData_arg0, cmdData_arg2, hflag]
  rfl

/-- EFFECT's data with ARG1 given as its ignored bits and HASVAL is the command word (R82, R84). -/
theorem effectData_eq_cmdData (code val : Byte) (x : BitVec 7) (h : BitVec 1) :
    (0x05 : Byte) ++ code ++ x ++ h ++ val = cmdData 0x05 code (x ++ h) val :=
  congrArg (fun fields : BitVec 24 => fields ++ val) BitVec.append_assoc

/-- HASVAL, below the seven ignored bits of ARG1 (R84, R85). -/
theorem decodeCmd_effect_hasval (code val : Byte) (x : BitVec 7) (h : BitVec 1) :
    decodeCmd (cmdData 0x05 code (x ++ h) val) = .effect code (h.getLsbD 0) val := by
  rw [decodeCmd_effect, BitVec.getLsbD_append, if_pos (by omega)]

/-- The value byte of an EFFECT with HASVAL = 0 is not looked at (R85, R183). -/
theorem exec_effect_without_value (code val val' : Byte) (s : State) :
    exec (.effect code false val) s = exec (.effect code false val') s := rfl

/-- Settles O4, field by field: each decodes to the same operation, or to EFFECTs that do the same. -/
theorem ignoredFieldsMakeNoDifference : Obligations.IgnoredFieldsMakeNoDifference := by
  refine fun s => ⟨?pixel, ?command, ?arg1, ?value, ?config⟩
  case pixel =>
    intro a x r g b hhigh hlow
    have hwrpx (y : Byte) : decodeTransaction true a (cmdData y r g b) = .wrpx (a.extractLsb' 2 8) r g b := by
      simp [decodeTransaction_writePixel _ hhigh hlow]
    exact congrArg (exec · s) ((hwrpx x).trans (hwrpx 0).symm)
  case command =>
    intro op x hop
    have hfield (y : BitVec 24) : (op ++ y).extractLsb' 24 8 = op :=
      (extractLsb'_append_high op y 0 8).trans BitVec.extractLsb'_eq_self
    exact congrArg (exec · s) (decodeCmd_congr_op ((hfield x).trans (hfield 0).symm) (by rwa [hfield]))
  case arg1 =>
    intro code val x h
    simp only [effectData_eq_cmdData, decodeTransaction_writeCmd, decodeCmd_effect_hasval]
  case value =>
    intro code val x
    simp only [effectData_eq_cmdData, decodeTransaction_writeCmd, decodeCmd_effect_hasval]
    exact exec_effect_without_value code val 0 s
  case config =>
    intro x v
    have hbit (y : BitVec 31) : (y ++ v).getLsbD 0 = v.getLsbD 0 := by
      rw [BitVec.getLsbD_append, if_pos (by omega)]
    simp only [decodeTransaction_writeConfig, hbit]

end Sys2Proof.Machine
end

section
/-! Proofs of the family 30_encoding.md, round trips: decode and encode are inverse on the well-formed
instructions (R83, R84, R91, R92, R94). -/

namespace Sys2Proof.Machine

/-! ### Transactions -/

/-- The encoding of a well-formed producer operation is a transaction that selects its row (R94). -/
theorem encode_selects {i : Instr} (hi : isProducerOp i = true) (hwf : i.wf = true) :
    ∃ w a d, encode i = busEvent w a d ∧ Selects w a d i := by
  cases i
  case busErr w a d =>
    refine ⟨w, a, d, rfl, ?_, rfl, rfl, rfl⟩
    simpa [Instr.wf, selectsBusErr, or_assoc] using hwf
  case wrpx p r g b =>
    exact ⟨_, _, _, rfl, rfl, pixelAddr_high p, pixelAddr_low p, (pixelAddr_index p).symm,
      (cmdData_arg0 0 r g b).symm, (cmdData_arg1 0 r g b).symm, (cmdData_arg2 0 r g b).symm⟩
  case rdpx p => exact ⟨_, _, _, rfl, rfl, pixelAddr_high p, pixelAddr_low p, (pixelAddr_index p).symm⟩
  case setReady | clearReady | connect | disconnect => exact ⟨_, _, _, rfl, rfl, rfl, cmdData_op _ _ _ _⟩
  case effect code hasval val =>
    exact ⟨_, _, _, rfl, decodeTransaction_eq_iff.mp (by
      rw [decodeTransaction_writeCmd, decodeCmd_effect_hasval, BitVec.getLsbD_ofBool]; simp)⟩
  case cmdIllegal op =>
    refine ⟨_, _, _, rfl, rfl, rfl, (cmdData_op op 0 0 0).symm, (undefinedOp_iff op).mpr ?_⟩
    simpa [Instr.wf, and_assoc] using hwf
  case wrconfig v =>
    refine ⟨_, _, _, rfl, rfl, rfl, ?_⟩
    rw [getLsbD_append_flag]
    cases v <;> decide
  case rdcmd | rdstatus | rdconfig | rdfault => exact ⟨_, _, _, rfl, rfl, rfl⟩
  all_goals exact absurd hi Bool.false_ne_true

theorem decode_encode_producer {i : Instr} (hi : isProducerOp i = true) (hwf : i.wf = true) :
    decode (encode i) = .ok i := by
  obtain ⟨w, a, d, he, hsel⟩ := encode_selects hi hwf
  rw [he, decode_busEvent, decodeTransaction_of_selects hsel]

/-- The row that a transaction selects is a well-formed instruction (R83). -/
theorem wf_of_selects {w : Bool} {a : Addr} {d : Data} {i : Instr} (h : Selects w a d i) : i.wf = true := by
  cases i
  case busErr =>
    obtain ⟨hsel, rfl, rfl, rfl⟩ := h
    simpa [Instr.wf, selectsBusErr, or_assoc] using hsel
  case cmdIllegal op =>
    obtain ⟨-, -, -, hop⟩ := h
    simpa [Instr.wf, and_assoc] using (undefinedOp_iff op).mp hop
  case tokFrameSerial | tokFrameSocket => exact h.elim
  all_goals rfl

/-! ### Wire tokens -/

/-- A frame payload is longer than every other serial token (R91). -/
theorem decodeSerialToken_frame {payload : List Byte} (h : isFrame payload = true) :
    decodeSerialToken payload = some (.tokFrameSerial payload) := by
  unfold decodeSerialToken
  split
  · exact absurd h Bool.false_ne_true
  · exact absurd h Bool.false_ne_true
  · exact if_pos h

/-- A frame payload is longer than every other socket token (R91). -/
theorem decodeSocketToken_frame {payload : List Byte} (h : (isFrame payload && payload.all (· != 0)) = true) :
    decodeSocketToken payload = some (.tokFrameSocket payload) := by
  unfold decodeSocketToken
  split
  · exact absurd h Bool.false_ne_true
  · exact if_pos h

/-- What a serial spelling decodes to is well formed and has that spelling (R91). -/
theorem decodeSerialToken_sound {bytes : List Byte} {i : Instr} (h : decodeSerialToken bytes = some i) :
    i.wf = true ∧ encode i = .token .serial bytes := by
  unfold decodeSerialToken at h
  split at h
  · repeat' split at h
    all_goals cases h <;> (subst_vars; exact ⟨rfl, rfl⟩)
  · repeat' split at h
    all_goals cases h <;> (subst_vars; exact ⟨rfl, rfl⟩)
  · split at h
    · next hframe => cases h; exact ⟨hframe, rfl⟩
    · cases h

/-- What a socket spelling decodes to is well formed and has that spelling (R91). -/
theorem decodeSocketToken_sound {bytes : List Byte} {i : Instr} (h : decodeSocketToken bytes = some i) :
    i.wf = true ∧ encode i = .token .socket bytes := by
  unfold decodeSocketToken at h
  split at h
  · split at h
    · cases h
    · next hz =>
      obtain rfl := not_not.mp hz
      repeat' split at h
      all_goals cases h <;> (subst_vars; exact ⟨rfl, rfl⟩)
  · split at h
    · next hframe => cases h; exact ⟨hframe, rfl⟩
    · cases h

/-- What a spelling decodes to is well formed and has that spelling (R91). -/
theorem decodeToken_sound {v : Variant} {bytes : List Byte} {i : Instr} (h : decodeToken v bytes = some i) :
    i.wf = true ∧ encode i = .token v bytes := by
  cases v
  · exact decodeSerialToken_sound h
  · exact decodeSocketToken_sound h

/-- What a received byte decodes to is well formed and has that byte (R92). -/
theorem decodeDevice_sound {b : Byte} {i : Instr} (h : decodeDevice b = some i) :
    i.wf = true ∧ encode i = .agent (.device b) := by
  unfold decodeDevice at h
  repeat' split at h
  all_goals cases h <;> (subst_vars; exact ⟨rfl, rfl⟩)

/-! ### The decoder as a whole -/

theorem decode_token_eq_ok {v : Variant} {bytes : List Byte} {i : Instr} :
    decode (.token v bytes) = .ok i ↔ decodeToken v bytes = some i := by
  cases h : decodeToken v bytes <;> simp [decode, h]

theorem decode_device_eq_ok {b : Byte} {i : Instr} :
    decode (.agent (.device b)) = .ok i ↔ decodeDevice b = some i := by
  cases h : decodeDevice b <;> simp [decode, h]

theorem decode_producer_eq_ok {t : BusWord} {i : Instr} :
    decode (.agent (.producer t)) = .ok i ↔ Selects (busW t) (busAddr t) (busData t) i :=
  (Except.ok.injEq _ _).to_iff.trans decodeTransaction_eq_iff

/-- Settles O2: a transaction through the row it selects, a token through its spelling. -/
theorem decodeOfEncodeIsTheInstruction : Obligations.DecodeOfEncodeIsTheInstruction := by
  intro i hwf
  cases i
  case tokGoSerial | tokBlank | tokKeepalive | tokGoSocket | tokQuit => rfl
  case tokBright val | tokTest val => cases val <;> rfl
  case tokFrameSerial payload => exact decode_token_eq_ok.mpr (decodeSerialToken_frame hwf)
  case tokFrameSocket payload => exact decode_token_eq_ok.mpr (decodeSocketToken_frame hwf)
  case tokS | tokA | tokE | tokD => rfl
  all_goals exact decode_encode_producer rfl hwf

/-- An instruction that encodes to a received byte is a device-to-host token, so it is well formed (R92). -/
theorem wf_of_encode_device {i : Instr} {b : Byte} (h : encode i = .agent (.device b)) : i.wf = true := by
  cases i
  case tokS | tokA | tokE | tokD => rfl
  all_goals cases h

/-- Settles O5: the decoder is sound for spellings, and O2 is the converse. -/
theorem tokensHaveOneSpelling : Obligations.TokensHaveOneSpelling := by
  refine ⟨fun v bytes i => ⟨fun h => decodeToken_sound (decode_token_eq_ok.mp h), ?_⟩,
    fun b i => ⟨fun h => (decodeDevice_sound (decode_device_eq_ok.mp h)).2, fun he => ?_⟩⟩
  · rintro ⟨hwf, he⟩
    exact he ▸ decodeOfEncodeIsTheInstruction i hwf
  · exact he ▸ decodeOfEncodeIsTheInstruction i (wf_of_encode_device he)

/-- Settles O6: a transaction's row is well formed, and so is whatever a spelling decodes to. -/
theorem decodedInstructionIsWellFormed : Obligations.DecodedInstructionIsWellFormed := by
  intro e i h
  cases e with
  | token v bytes => exact (decodeToken_sound (decode_token_eq_ok.mp h)).1
  | agent a =>
    cases a with
    | producer t => exact wf_of_selects (decode_producer_eq_ok.mp h)
    | device b => exact (decodeDevice_sound (decode_device_eq_ok.mp h)).1
    | engine => cases h
    | timer => cases h
    | rst => cases h

/-- Settles O1: the twelve spellings, computed. -/
theorem specWordsDecode : Obligations.SpecWordsDecode := by
  unfold Obligations.SpecWordsDecode
  decide

end Sys2Proof.Machine
end

section
/-! Proofs of the family 30_encoding.md, tokens on the link: in which phases they are sent, that every byte
sent is one of theirs (R91), and the delivery of the device-to-host tokens (R92). -/

namespace Sys2Proof.Machine

/-- Settles O41: a token's meaning is the Engine's step guarded by its phases. -/
theorem tokensAreSentOnlyInTheirPhases : Obligations.TokensAreSentOnlyInTheirPhases := by
  intro i v s hv
  obtain ⟨emits, he, hphase⟩ := exec_token s hv
  cases emits
  · exact Or.inl he
  · exact Or.inr ⟨hphase rfl, he⟩

/-! ### Every byte sent is a token's -/

/-- In `s` the Engine's step sends `b`, a byte of the token `i` spelled `bytes` in the selected variant, and
the token's meaning is that step. -/
structure SendsByteOf (s : State) (i : Instr) (bytes : List Byte) (b : Byte) : Prop where
  wf : i.wf = true
  spelled : encode i = .token s.variant bytes
  emitted : s.phase ∈ emittedIn i
  byte_mem : b ∈ bytes
  meaning : exec i s = .next (engineStep s)
  tx_eq : (engineStep s).tx = s.tx ++ [b]

/-- What a spelling of a variant encodes is a token of that variant (R91). -/
theorem tokenVariant_of_encode {i : Instr} {v : Variant} {bytes : List Byte} (hwf : i.wf = true)
    (he : encode i = .token v bytes) : tokenVariant i = some v :=
  decodeToken_variant (decode_token_eq_ok.mp ((tokensHaveOneSpelling.1 v bytes i).mpr ⟨hwf, he⟩))

/-- A token whose guard holds means the Engine's step. -/
theorem emission_of_emits {emits : Bool} (s : State) (h : emits = true) : emission emits s = .next (engineStep s) :=
  h ▸ rfl

@[simp] theorem frameStep_tx (s : State) : (frameStep s).tx = s.tx ++ [s.snap.get s.txcnt] := by
  unfold frameStep
  split <;> rfl

/-- A step that emits `b` and moves on sends a byte of each token that holds `b` and means that step. -/
theorem sendsByteOf_of_send {s : State} {v : Variant} {p q : Phase} {i : Instr} {bytes : List Byte} {b : Byte}
    (hv : s.variant = v) (hp : s.phase = p) (hmeaning : exec i s = .next (engineStep s))
    (hstep : engineStep s = (s.emit b).setPhase q) (hwf : i.wf = true := by rfl)
    (hspelled : encode i = .token v bytes := by rfl) (hemitted : p ∈ emittedIn i := by simp [emittedIn])
    (hb : b ∈ bytes := by simp) : SendsByteOf s i bytes b where
  wf := hwf
  spelled := hv ▸ hspelled
  emitted := hp ▸ hemitted
  byte_mem := hb
  meaning := hmeaning
  tx_eq := by rw [hstep]; rfl

/-- EF_CMD sends the code of the effect in flight, `B`, `T` or `Z` (R198). -/
theorem efCmd_sends {s : State} (h : Inv s) (hp : s.phase = .efCmd) : ∃ i bytes b, SendsByteOf s i bytes b := by
  have hv := (h.fits hp).serial_only rfl
  have hstep := engineStep_efCmd hp
  obtain hcode | hcode | hcode := (h.fits hp).effect_code rfl <;> rw [hcode] at hstep
  · exact ⟨.tokBright s.effectValue, _, _, sendsByteOf_of_send hv hp
      (emission_of_emits s (by simp [State.emitsEffect, hp, hcode])) hstep⟩
  · exact ⟨.tokTest s.effectValue, _, _, sendsByteOf_of_send hv hp
      (emission_of_emits s (by simp [State.emitsEffect, hp, hcode])) hstep⟩
  · exact ⟨.tokBlank, _, _, sendsByteOf_of_send hv hp (emission_of_emits s (by simp [hp, hcode])) hstep⟩

/-- EF_VAL sends the value byte of the effect in flight, `B` or `T` (R200). -/
theorem efVal_sends {s : State} (h : Inv s) (hp : s.phase = .efVal) : ∃ i bytes b, SendsByteOf s i bytes b := by
  have hv := (h.fits hp).serial_only rfl
  have hmem (c : Byte) : s.efVal ∈ c :: s.effectValue.toList := by
    simp [State.effectValue, (h.fits hp).effect_value (Or.inl rfl)]
  obtain hcode | hcode | hcode := (h.fits hp).effect_code rfl
  · exact ⟨.tokBright s.effectValue, _, _, sendsByteOf_of_send hv hp
      (emission_of_emits s (by simp [State.emitsEffect, hp, hcode])) (engineStep_efVal hp) (hb := hmem _)⟩
  · exact ⟨.tokTest s.effectValue, _, _, sendsByteOf_of_send hv hp
      (emission_of_emits s (by simp [State.emitsEffect, hp, hcode])) (engineStep_efVal hp) (hb := hmem _)⟩
  · exact absurd hcode ((h.fits hp).effect_ack rfl nofun)

theorem isFrame_snap (s : State) : isFrame s.snap.toList = true := by
  simp [isFrame]

/-- TX_FRAME sends a byte of the frame in flight (R196). -/
theorem txFrame_sends {s : State} (h : Inv s) (hp : s.phase = .txFrame) : ∃ i bytes b, SendsByteOf s i bytes b := by
  have hmem : s.snap.get s.txcnt ∈ s.snap.toList := Vector.mem_toList_iff.mpr (Vector.getElem_mem s.txcnt.isLt)
  have htx : (engineStep s).tx = s.tx ++ [s.snap.get s.txcnt] := by rw [engineStep_txFrame hp, frameStep_tx]
  cases hv : s.variant
  · exact ⟨.tokFrameSerial s.snap.toList, _, _, {
      wf := isFrame_snap s
      spelled := hv ▸ rfl
      emitted := hp ▸ List.mem_singleton_self _
      byte_mem := hmem
      meaning := emission_of_emits s (by simp [State.emitsFrame, hp, hv])
      tx_eq := htx }⟩
  · exact ⟨.tokFrameSocket s.snap.toList, _, _, {
      wf := by rw [Instr.wf, isFrame_snap, (h.fits hp).snap_nonzero rfl hv]; rfl
      spelled := hv ▸ rfl
      emitted := hp ▸ List.mem_singleton_self _
      byte_mem := hmem
      meaning := emission_of_emits s (by simp [State.emitsFrame, hp, hv])
      tx_eq := htx }⟩

/-- HS_G1 and TX_G1 send `G`, the whole serial Go token or the second byte of the socket one (R185, R191). -/
theorem go_sends {s : State} {p q : Phase} (hp : s.phase = p) (hgo : p = .hsG1 ∨ p = .txG1)
    (hstep : engineStep s = (s.emit (char .G)).setPhase q) : ∃ i bytes b, SendsByteOf s i bytes b := by
  cases hv : s.variant
  · exact ⟨.tokGoSerial, _, _, sendsByteOf_of_send hv hp (emission_of_emits s (by simp [hp, hv, hgo])) hstep
      (hemitted := by simpa [emittedIn] using hgo)⟩
  · refine ⟨.tokGoSocket, _, _, sendsByteOf_of_send hv hp (emission_of_emits s (by simp [hp, hv, hgo])) hstep
      (hemitted := ?_)⟩
    obtain rfl | rfl := hgo <;> decide

/-- Every SEND phase sends a byte of a token that R91 lists for it. -/
theorem exists_sendsByteOf {s : State} (h : Inv s) (hsend : s.phase.isSend = true) :
    ∃ i bytes b, SendsByteOf s i bytes b := by
  cases hp : s.phase
  case hsK0 =>
    exact ⟨.tokKeepalive, _, _, sendsByteOf_of_send ((h.fits hp).socket_only rfl) hp
      (emission_of_emits s (by simp [hp])) (engineStep_hsK0 hp)⟩
  case hsK1 =>
    exact ⟨.tokKeepalive, _, _, sendsByteOf_of_send ((h.fits hp).socket_only rfl) hp
      (emission_of_emits s (by simp [hp])) (engineStep_hsK1 hp)⟩
  case hsG0 =>
    exact ⟨.tokGoSocket, _, _, sendsByteOf_of_send ((h.fits hp).socket_only rfl) hp
      (emission_of_emits s (by simp [hp])) (engineStep_hsG0 hp)⟩
  case hsG1 => exact go_sends hp (Or.inl rfl) (engineStep_hsG1 hp)
  case txG0 =>
    exact ⟨.tokGoSocket, _, _, sendsByteOf_of_send ((h.fits hp).socket_only rfl) hp
      (emission_of_emits s (by simp [hp])) (engineStep_txG0 hp)⟩
  case txG1 => exact go_sends hp (Or.inr rfl) (engineStep_txG1 hp)
  case txFrame => exact txFrame_sends h hp
  case efCmd => exact efCmd_sends h hp
  case efVal => exact efVal_sends h hp
  case dcQ0 =>
    exact ⟨.tokQuit, _, _, sendsByteOf_of_send ((h.fits hp).socket_only rfl) hp
      (emission_of_emits s (by simp [hp])) (engineStep_dcQ0 hp)⟩
  case dcQ1 =>
    exact ⟨.tokQuit, _, _, sendsByteOf_of_send ((h.fits hp).socket_only rfl) hp
      (emission_of_emits s (by simp [hp])) (engineStep_dcQ1 hp)⟩
  case fltZ =>
    exact ⟨.tokBlank, _, _, sendsByteOf_of_send ((h.fits hp).serial_only rfl) hp
      (emission_of_emits s (by simp [hp])) (engineStep_fltZ hp)⟩
  case fltQ0 =>
    exact ⟨.tokQuit, _, _, sendsByteOf_of_send ((h.fits hp).socket_only rfl) hp
      (emission_of_emits s (by simp [hp])) (engineStep_fltQ0 hp)⟩
  case fltQ1 =>
    exact ⟨.tokQuit, _, _, sendsByteOf_of_send ((h.fits hp).socket_only rfl) hp
      (emission_of_emits s (by simp [hp])) (engineStep_fltQ1 hp)⟩
  all_goals rw [hp] at hsend; exact absurd hsend (by decide)

/-- Settles O42: the token is the one that the phase, the variant, the effect latch and SNAP name. -/
theorem everySendIsOfAToken : Obligations.EverySendIsOfAToken := by
  intro s h hsend
  obtain ⟨i, bytes, b, hs⟩ := exists_sendsByteOf h hsend
  exact ⟨i, bytes, b, engineStep s, tokenVariant_of_encode hs.wf hs.spelled, hs.wf, hs.emitted, hs.spelled, hs.byte_mem,
    rfl, hs.meaning, hs.tx_eq⟩

/-! ### Deliveries -/

/-- Settles O44: with the FIFO open and with room, a delivery is the queued byte (R210). -/
theorem deviceTokensAreDelivered : Obligations.DeviceTokensAreDelivered := by
  intro s hopen hroom
  have hqueue (b : Byte) : deliver s b = { s with rxFifo := s.rxFifo ++ [b] } := by
    obtain ⟨hclosed, -⟩ | ⟨-, hfull, -⟩ | ⟨-, -, e⟩ := deliver_cases s b
    · exact absurd (hopen.symm.trans hclosed) Bool.noConfusion
    · exact absurd hroom (Nat.not_lt_of_le hfull)
    · exact e
  exact ⟨congrArg _ (hqueue _), congrArg _ (hqueue _), congrArg _ (hqueue _), congrArg _ (hqueue _)⟩

end Sys2Proof.Machine
end

section
/-! Proofs of the family 40_frame_encoder.md: the zigzag reorder is an involution of 0..255, and what a frame
determines of its snapshot (R111-R118). -/

namespace Sys2Proof.Machine

/-! ### The zigzag reorder -/

/-- Even rows are kept (R111). -/
theorem zigzagSrc_even_row {q : Nat} (h : q / 16 % 2 = 0) : zigzagSrc q = q := by
  simp only [zigzagSrc, if_pos h]
  omega

/-- Odd rows are reversed (R111). -/
theorem zigzagSrc_odd_row {q : Nat} (h : ¬ q / 16 % 2 = 0) : zigzagSrc q = 16 * (q / 16) + (15 - q % 16) :=
  if_neg h

/-- The reorder moves a pixel within its row (R111). -/
theorem zigzagSrc_row (q : Nat) : zigzagSrc q / 16 = q / 16 := by
  by_cases h : q / 16 % 2 = 0
  · rw [zigzagSrc_even_row h]
  · rw [zigzagSrc_odd_row h]; omega

theorem zigzagSrc_lt {q : Nat} (hq : q < 256) : zigzagSrc q < 256 := by
  have := zigzagSrc_row q
  omega

/-- The source index of the source index is the wire position itself (R116). -/
theorem zigzagSrc_involutive : Function.Involutive zigzagSrc := by
  intro q
  by_cases h : q / 16 % 2 = 0
  · rw [zigzagSrc_even_row h, zigzagSrc_even_row h]
  · rw [zigzagSrc_odd_row (by rwa [zigzagSrc_row]), zigzagSrc_row, zigzagSrc_odd_row h]
    omega

/-- Settles O28: an involution is a bijection, and this one keeps each row. -/
theorem zigzagIsItsOwnInverse : Obligations.ZigzagIsItsOwnInverse :=
  ⟨fun S q => congrArg S (zigzagSrc_involutive q), fun _ => zigzagSrc_lt,
    fun p hp => ⟨zigzagSrc p, zigzagSrc_lt hp, zigzagSrc_involutive p,
      fun _ _ h => zigzagSrc_involutive.injective (h.trans (zigzagSrc_involutive p).symm)⟩,
    fun _ _ => zigzagSrc_even_row⟩

/-! ### The bytes of a wire pixel -/

/-- Wire pixel q of a serial frame is R, G, B of its source pixel (R113). -/
theorem encodeFrame_serial_pixel (S : Nat → Rgb) {q : Nat} (hq : q < 256) :
    (encodeFrame .serial S).toList[3 * q]? = some (S (zigzagSrc q)).r ∧
      (encodeFrame .serial S).toList[3 * q + 1]? = some (S (zigzagSrc q)).g ∧
      (encodeFrame .serial S).toList[3 * q + 2]? = some (S (zigzagSrc q)).b :=
  have hbyte (k : Nat) (hk : k < 3) := encodeFrame_getElem? .serial S hq hk
  ⟨hbyte 0 (by decide), hbyte 1 (by decide), hbyte 2 (by decide)⟩

/-- Wire pixel q of a socket frame is G, R, B of its source pixel, substituted (R113, R114). -/
theorem encodeFrame_socket_pixel (S : Nat → Rgb) {q : Nat} (hq : q < 256) :
    (encodeFrame .socket S).toList[3 * q]? = some (substZero (S (zigzagSrc q)).g) ∧
      (encodeFrame .socket S).toList[3 * q + 1]? = some (substZero (S (zigzagSrc q)).r) ∧
      (encodeFrame .socket S).toList[3 * q + 2]? = some (substZero (S (zigzagSrc q)).b) :=
  have hbyte (k : Nat) (hk : k < 3) := encodeFrame_getElem? .socket S hq hk
  ⟨hbyte 0 (by decide), hbyte 1 (by decide), hbyte 2 (by decide)⟩

/-- Settles O27, variant by variant. -/
theorem encodePlacesEveryByte : Obligations.EncodePlacesEveryByte :=
  fun S _ hq => ⟨encodeFrame_serial_pixel S hq, encodeFrame_socket_pixel S hq⟩

/-- Settles O29: every byte of a socket frame is a substituted one. -/
theorem socketFrameHasNoZeroByte : Obligations.SocketFrameHasNoZeroByte := by
  intro S b hb
  have hne : b ≠ 0 := bne_iff_ne.mp (List.all_eq_true.mp (encodeFrame_socket_all_ne_zero S) b hb)
  bv_omega

/-! ### What a frame determines of its snapshot -/

/-- Substitution raises a lane to at least 1 (R114). -/
theorem substZero_toNat (v : Byte) : (substZero v).toNat = max 1 v.toNat := by
  unfold substZero
  split
  · next h => rw [h]; rfl
  · next h => bv_omega

/-- Substitution confuses 0 and 1, and nothing else (R118). -/
theorem substZero_eq_iff (v w : Byte) : substZero v = substZero w ↔ v = w ∨ (v.toNat ≤ 1 ∧ w.toNat ≤ 1) := by
  rw [← BitVec.toNat_inj, ← BitVec.toNat_inj, substZero_toNat, substZero_toNat]
  omega

/-- Two pixels have the same socket bytes exactly when their channels agree up to 0 and 1. -/
theorem pixelBytes_socket_eq_iff (x y : Rgb) : pixelBytes .socket x = pixelBytes .socket y ↔
    (x.r = y.r ∨ (x.r.toNat ≤ 1 ∧ y.r.toNat ≤ 1)) ∧ (x.g = y.g ∨ (x.g.toNat ≤ 1 ∧ y.g.toNat ≤ 1)) ∧
      (x.b = y.b ∨ (x.b.toNat ≤ 1 ∧ y.b.toNat ≤ 1)) := by
  simp only [pixelBytes, List.cons.injEq, substZero_eq_iff, and_true]
  exact and_left_comm

/-- Equal frames have equal wire pixels, at every wire position. -/
theorem pixelBytes_eq_of_encodeFrame_eq {v : Variant} {S S' : Nat → Rgb} (h : encodeFrame v S = encodeFrame v S')
    {q : Nat} (hq : q < 256) : pixelBytes v (S (zigzagSrc q)) = pixelBytes v (S' (zigzagSrc q)) := by
  refine List.ext_getElem? fun k => ?_
  by_cases hk : k < 3
  · rw [← encodeFrame_getElem? v S hq hk, h, encodeFrame_getElem? v S' hq hk]
  · rw [List.getElem?_eq_none (by rw [pixelBytes_length]; omega),
      List.getElem?_eq_none (by rw [pixelBytes_length]; omega)]

/-- Two frames are equal exactly when each pixel of 0..255 has the same wire bytes in both. -/
theorem encodeFrame_eq_iff (v : Variant) (S S' : Nat → Rgb) :
    encodeFrame v S = encodeFrame v S' ↔ ∀ p < 256, pixelBytes v (S p) = pixelBytes v (S' p) := by
  constructor
  · intro h p hp
    have := pixelBytes_eq_of_encodeFrame_eq h (zigzagSrc_lt hp)
    rwa [zigzagSrc_involutive] at this
  · intro h
    have hbytes : encodeBytes v S = encodeBytes v S' :=
      List.flatMap_congr fun q hq => h _ (zigzagSrc_lt (List.mem_range.mp hq))
    simp only [encodeFrame, hbytes]

/-- Settles O30: pixel p is at its own source index, and the socket frame holds each pixel's substituted bytes. -/
theorem serialFrameLosesNothing : Obligations.SerialFrameLosesNothing := by
  refine ⟨fun S p hp => ?_, fun S S' => ?_⟩
  · have := encodeFrame_serial_pixel S (zigzagSrc_lt hp)
    rwa [zigzagSrc_involutive] at this
  · simp only [encodeFrame_eq_iff, pixelBytes_socket_eq_iff]

end Sys2Proof.Machine
end

section
/-! Proofs of the family 41_producer_ops.md, one operation at a time: what each one decodes from, what it
answers and what it leaves alone (R140 to R155). -/

namespace Sys2Proof.Machine

/-! ### The Frame Buffer window -/

/-- A pixel write reads back unchanged outside the pixel's four lanes (R66, R145). -/
theorem Memory.read_writePixel_outside (m : Memory) (p : Nat) (x : Rgb) {a : Nat}
    (h : a < fbLane p 0 ∨ fbLane p 0 + 4 ≤ a) : Memory.read (m.writePixel p x) a = Memory.read m a := by
  have hne (k : Nat) (hk : k < 4) : a ≠ fbLane p k := by
    unfold fbLane at h ⊢
    omega
  rw [Memory.read_writePixel, if_neg (hne 3 (by decide)), if_neg (hne 2 (by decide)), if_neg (hne 1 (by decide)),
    if_neg (hne 0 (by decide))]

/-- Settles O11: `Memory.writePixel` writes the four lanes of one pixel. -/
theorem wrpxWritesOnePixel : Obligations.WrpxWritesOnePixel :=
  ⟨fun _ wdata hhigh hlow => decodeTransaction_writePixel wdata hhigh hlow,
    fun p r g b s => ⟨_, rfl, s.fb.valid_writePixel_same p.toNat ⟨r, g, b⟩, s.fb.rgb_writePixel_same p.toNat ⟨r, g, b⟩,
      fun _ ha => s.fb.read_writePixel_outside p.toNat ⟨r, g, b⟩ ha, rfl⟩⟩

section
variable (x : Rgb) (draw : Nat)

theorem pixelWord_blue : (pixelWord x).extractLsb' 0 8 = x.b := extractLsb'_append_low _ _

theorem pixelWord_green : (pixelWord x).extractLsb' 8 8 = x.g :=
  (extractLsb'_append_high _ x.b 0 8).trans (extractLsb'_append_low _ _)

theorem pixelWord_red : (pixelWord x).extractLsb' 16 8 = x.r :=
  (extractLsb'_append_high _ x.b 8 8).trans <|
    (extractLsb'_append_high _ x.g 0 8).trans (extractLsb'_append_low _ _)

theorem pixelWord_valid : (pixelWord x).getLsbD 24 = true :=
  (getLsbD_append_high _ x.b 16).trans <|
    (getLsbD_append_high _ x.g 8).trans <| (getLsbD_append_high _ x.r 0).trans (getLsbD_append_flag _ _)

theorem pixelWord_reserved : (pixelWord x).extractLsb' 25 7 = 0 :=
  (extractLsb'_append_high _ x.b 17 7).trans <|
    (extractLsb'_append_high _ x.g 9 7).trans <|
      (extractLsb'_append_high _ x.r 1 7).trans <|
        (extractLsb'_append_high _ (BitVec.ofBool true) 0 7).trans BitVec.extractLsb'_eq_self

theorem unsetPixelWord_valid : (unsetPixelWord draw).getLsbD 24 = false :=
  (getLsbD_append_high _ (Config.freeRgb draw) 0).trans (getLsbD_append_flag _ _)

theorem unsetPixelWord_reserved : (unsetPixelWord draw).extractLsb' 25 7 = 0 :=
  (extractLsb'_append_high _ (Config.freeRgb draw) 1 7).trans <|
    (extractLsb'_append_high _ (BitVec.ofBool false) 0 7).trans BitVec.extractLsb'_eq_self

end

/-- Settles O12: a set pixel is answered from the Frame Buffer, an unset one with V = 0 and a free value. -/
theorem rdpxReadsOnePixel : Obligations.RdpxReadsOnePixel := by
  refine ⟨fun _ wdata hhigh hlow => decodeTransaction_readPixel wdata hhigh hlow, fun p s => ?_⟩
  cases hv : s.fb.valid p.toNat
  · refine ⟨unsetPixelWord s.draws, ?_, unsetPixelWord_reserved _, unsetPixelWord_valid _, nofun⟩
    simp only [exec, execRdpx, hv]
    rfl
  · refine ⟨pixelWord (s.fb.rgb p.toNat), ?_, pixelWord_reserved _, pixelWord_valid _, fun _ => ?_⟩
    · simp only [exec, execRdpx, hv]
      rfl
    · rw [pixelWord_red, pixelWord_green, pixelWord_blue]

/-! ### Writes to CMD -/

/-- The phases of TXP, listed (R144). -/
theorem Phase.inTxp_iff (p : Phase) :
    p.inTxp = true ↔ p = .txG0 ∨ p = .txG1 ∨ p = .txWaitA ∨ p = .txFrame ∨ p = .txWaitD := by
  cases p <;> decide

/-- Settles O13: SET_READY is accepted in every state, and loses the set only under DROP in TXP. -/
theorem setReadySetsTheFlag : Obligations.SetReadySetsTheFlag := by
  refine ⟨fun _ hop => decodeTransaction_of_selects (i := .setReady) ⟨rfl, rfl, hop⟩, fun s => ?_⟩
  simp only [exec, execSetReady, Phase.inTxp_iff]
  split <;> rfl

/-- Settles O14: CLEAR_READY asks nothing of the state. -/
theorem clearReadyClearsTheFlag : Obligations.ClearReadyClearsTheFlag :=
  ⟨fun _ hop => decodeTransaction_of_selects (i := .clearReady) ⟨rfl, rfl, hop⟩, fun _ => rfl⟩

/-- Settles O19: every OP outside 1..5 selects CMD_ILLEGAL, whose meaning is the rejection alone. -/
theorem cmdIllegalOnlyRejects : Obligations.CmdIllegalOnlyRejects :=
  ⟨fun _ hop => decodeTransaction_of_selects (i := .cmdIllegal _) ⟨rfl, rfl, rfl, hop⟩, fun _ _ => ⟨rfl, rfl⟩⟩

/-! ### CONFIG and the reads of the registers -/

/-- Settles O16: the two branches of WRCONFIG. -/
theorem wrconfigOnlyInDisc : Obligations.WrconfigOnlyInDisc := by
  refine ⟨fun wdata => decodeTransaction_writeConfig wdata, fun v s => ?_⟩
  simp only [exec, execWrconfig]
  split <;> rfl

/-- CONFIG as a number (R27). -/
theorem configWord_eq (s : State) : s.configWord = if s.variant = .socket then 1 else 0 := by
  unfold State.configWord
  cases s.variant <;> rfl

/-- Settles O17: RDCONFIG answers the word of CONFIG. -/
theorem rdconfigReturnsVariant : Obligations.RdconfigReturnsVariant :=
  ⟨fun _ => rfl, fun s => by rw [← configWord_eq]; rfl⟩

/-- Settles O20: RDCMD answers 0. -/
theorem rdcmdReadsZero : Obligations.RdcmdReadsZero := ⟨fun _ => rfl, fun _ => rfl⟩

section
variable (s : State)

theorem faultWord_cause : s.faultWord.extractLsb' 0 4 = s.cause.code := extractLsb'_append_low _ _

theorem faultWord_reserved_low : s.faultWord.extractLsb' 4 4 = 0 :=
  (extractLsb'_append_high _ s.cause.code 0 4).trans (extractLsb'_append_low _ _)

/-- A field of FAULTINFO above CAUSE and its reserved bits. -/
theorem faultWord_above_cause (k l : Nat) :
    s.faultWord.extractLsb' (4 + (4 + k)) l = ((0 : BitVec 11) ++ s.faultPhase.code ++ s.faultByte).extractLsb' k l :=
  (extractLsb'_append_high _ s.cause.code _ l).trans (extractLsb'_append_high _ (0 : BitVec 4) k l)

theorem faultWord_faultByte : s.faultWord.extractLsb' 8 8 = s.faultByte :=
  (faultWord_above_cause s 0 8).trans (extractLsb'_append_low _ _)

theorem faultWord_faultPhase : s.faultWord.extractLsb' 16 5 = s.faultPhase.code :=
  (faultWord_above_cause s 8 5).trans <|
    (extractLsb'_append_high _ s.faultByte 0 5).trans (extractLsb'_append_low _ _)

theorem faultWord_reserved_high : s.faultWord.extractLsb' 21 11 = 0 :=
  (faultWord_above_cause s 13 11).trans <|
    (extractLsb'_append_high _ s.faultByte 5 11).trans <|
      (extractLsb'_append_high _ s.faultPhase.code 0 11).trans BitVec.extractLsb'_eq_self

/-- FAULTINFO reads 0 before the first fatal error (R43). -/
theorem faultWord_eq_zero {s : State} (h : Inv s) (hfatal : s.fatal = false) : s.faultWord = 0 := by
  obtain ⟨hcause, hbyte, hphase⟩ := h.fault_clear hfatal
  simp only [State.faultWord, hcause, hbyte, hphase]
  rfl

end

/-- Settles O18: RDFAULT answers FAULTINFO, and a write to it is BUS_ERR. -/
theorem rdfaultReturnsTheRecord : Obligations.RdfaultReturnsTheRecord :=
  ⟨fun _ => ⟨rfl, rfl⟩, fun s => ⟨s.faultWord, rfl, faultWord_cause s, faultWord_reserved_low s, faultWord_faultByte s,
    faultWord_faultPhase s, faultWord_reserved_high s, faultWord_eq_zero⟩⟩

/-! ### The bus answer -/

/-- Settles O21: BUS_ERR's meaning is the answer alone, and its row of R83 has the three kinds. -/
theorem busErrChangesNothing : Obligations.BusErrChangesNothing :=
  ⟨fun _ _ _ _ => rfl, fun _ _ wdata h => decodeTransaction_busErr wdata h⟩

/-- The answer of every producer operation: ERR for BUS_ERR, OKAY for every other (R141). -/
theorem exec_producer_busResp {i : Instr} {s t : State} (hi : isProducerOp i = true) (h : exec i s = .next t) :
    ∃ r, t.busResp = some r ∧ (r.err = true ↔ ∃ w addr wdata, i = .busErr w addr wdata) := by
  cases i
  case busErr w addr wdata => cases h; exact ⟨_, rfl, fun _ => ⟨w, addr, wdata, rfl⟩, fun _ => rfl⟩
  all_goals
    cases hi <;> cases h
    repeat' split
    all_goals exact ⟨_, rfl, nofun, nofun⟩

/-- Settles O22: a producer operation has a next state, and its answer is in it. -/
theorem producerOperationAlwaysCompletes : Obligations.ProducerOperationAlwaysCompletes := by
  intro i s hi
  obtain ⟨t, ht⟩ := exec_producer_next s hi
  obtain ⟨r, hr, herr⟩ := exec_producer_busResp hi ht
  exact ⟨t, r, ht, hr, herr⟩

end Sys2Proof.Machine
end

section
/-! Proofs of the family 41_producer_ops.md, whole steps: who writes CMDERR and READY, and what starts a
cycle (R25, R35, R143, R156). -/

namespace Sys2Proof.Machine

/-! ### CMDERR -/

/-- Of the producer operations, only the writes to CMD and CONFIG write CMDERR (R143). -/
theorem exec_producer_cmdErr {i : Instr} {s t : State} (hi : isProducerOp i = true) (h : exec i s = .next t) :
    t.cmdErr = s.cmdErr ∨ writesCmdOrConfig i = true := by
  cases i
  case rdpx p => cases h; split <;> exact Or.inl rfl
  case busErr | wrpx | rdcmd | rdstatus | rdconfig | rdfault => cases h; exact Or.inl rfl
  case setReady | clearReady | connect | disconnect | effect | cmdIllegal | wrconfig => exact Or.inr rfl
  all_goals cases hi

/-- Settles O23: neither the Engine nor the Device nor the Timer writes CMDERR. -/
theorem cmderrChangedOnlyByCmdOrConfigWrites : Obligations.CmderrChangedOnlyByCmdOrConfigWrites := by
  intro s t h hne
  obtain ⟨w, he, hx⟩ | he | hkeeps := step_producer_or_rst_or_keeps h
  · obtain hsame | hwrites := exec_producer_cmdErr (isProducerOp_decodeBus w) hx
    · exact absurd (hsame.trans s.afterFetch_cmdErr) hne
    · exact Or.inr ⟨decodeBus w, by rw [he, decode], hwrites⟩
  · exact Or.inl he
  · exact absurd hkeeps.cmdErr hne

/-! ### READY, and the phase after IDLE -/

/-- Of the producer operations, SET_READY alone raises READY and CLEAR_READY alone clears it (R147, R148). -/
theorem exec_producer_ready {i : Instr} {s t : State} (hi : isProducerOp i = true) (h : exec i s = .next t) :
    t.ready = s.ready ∨ (i = .setReady ∧ t.ready = true) ∨ (i = .clearReady ∧ t.ready = false) := by
  cases i
  case setReady =>
    cases h
    split
    · exact Or.inl rfl
    · exact Or.inr (Or.inl ⟨rfl, rfl⟩)
  case clearReady => cases h; exact Or.inr (Or.inr ⟨rfl, rfl⟩)
  all_goals
    cases hi <;> cases h
    repeat' split
    all_goals exact Or.inl rfl

/-- What a producer operation does to PHASE and the RX FIFO: nothing, or it is a CONNECT in DISC, a
DISCONNECT in IDLE, which leaves the connected phases, or an EFFECT in IDLE (R180, R182, R183). -/
theorem exec_producer_phase_cases {i : Instr} {s t : State} (hi : isProducerOp i = true) (h : exec i s = .next t) :
    (t.phase = s.phase ∧ t.rxFifo = s.rxFifo) ∨ s.phase = .disc ∨
    (s.phase = .idle ∧ t.phase.isConnected = false) ∨
    (s.phase = .idle ∧ t.phase = .efCmd ∧ t.rxFifo = s.rxFifo) := by
  cases i
  case connect =>
    cases h
    split
    · exact Or.inl ⟨rfl, rfl⟩
    split
    · exact Or.inl ⟨rfl, rfl⟩
    · next hp => exact Or.inr (Or.inl (not_not.mp hp))
  case disconnect =>
    cases h
    split
    · exact Or.inl ⟨rfl, rfl⟩
    split
    · exact Or.inl ⟨rfl, rfl⟩
    split
    · exact Or.inl ⟨rfl, rfl⟩
    · next hp => exact Or.inr (Or.inr (Or.inl ⟨not_not.mp hp, by cases s.variant <;> rfl⟩))
  case effect =>
    cases h
    iterate 5
      split
      · exact Or.inl ⟨rfl, rfl⟩
    split
    · exact Or.inl ⟨rfl, rfl⟩
    · next hp => exact Or.inr (Or.inr (Or.inr ⟨not_not.mp hp, rfl, rfl⟩))
  all_goals
    cases hi <;> cases h
    repeat' split
    all_goals exact Or.inl ⟨rfl, rfl⟩

section
variable (s : State)

/-- Fatal entry leaves FATAL set (R241, R245). -/
@[simp] theorem State.raiseFatal_fatal (c : Cause) (b : Byte) : (s.raiseFatal c b).fatal = true := by
  obtain ⟨hfatal, e⟩ | ⟨-, e⟩ := s.raiseFatal_cases c b <;> rw [e]
  · exact hfatal
  · rfl

/-- Fatal entry stays where it is or leaves the connected phases (R33, R241). -/
theorem State.raiseFatal_phase_cases (c : Cause) (b : Byte) :
    (s.raiseFatal c b).phase = s.phase ∨ (s.raiseFatal c b).phase.isConnected = false := by
  obtain ⟨-, e⟩ | ⟨-, e⟩ := s.raiseFatal_cases c b <;> rw [e]
  · exact Or.inl rfl
  · rw [fatalEntry_phase]
    exact Or.inr (by cases s.variant <;> rfl)

@[simp] theorem deliver_ready (b : Byte) : (deliver s b).ready = s.ready := by
  obtain ⟨-, e⟩ | ⟨-, -, e⟩ | ⟨-, -, e⟩ := deliver_cases s b <;> simp [e]

@[simp] theorem timeoutStep_ready : (timeoutStep s).ready = s.ready := by
  obtain ⟨-, -, -, e⟩ | ⟨-, e⟩ := timeoutStep_cases s <;> simp [e]

theorem deliver_phase_cases (b : Byte) : (deliver s b).phase = s.phase ∨ (deliver s b).phase.isConnected = false := by
  obtain ⟨-, e⟩ | ⟨-, -, e⟩ | ⟨-, -, e⟩ := deliver_cases s b <;> rw [e]
  · exact Or.inl rfl
  · exact s.raiseFatal_phase_cases _ _
  · exact Or.inl rfl

theorem timeoutStep_phase_cases : (timeoutStep s).phase = s.phase ∨ (timeoutStep s).phase.isConnected = false := by
  obtain ⟨-, -, -, e⟩ | ⟨-, e⟩ := timeoutStep_cases s <;> rw [e]
  · exact s.raiseFatal_phase_cases _ _
  · exact Or.inl rfl

theorem waitStep_ready {success : State → State} (hs : ∀ u : State, (success u).ready = u.ready) :
    (waitStep s success).ready = s.ready := by
  obtain ⟨-, e⟩ | ⟨b, rest, -, ⟨-, e⟩ | ⟨-, -, e⟩ | ⟨-, -, e⟩⟩ := waitStep_cases s success <;> simp [e, hs]

theorem consume_ready : (consume s).ready = false := by
  obtain ⟨-, e⟩ | ⟨-, e⟩ := consume_cases s <;> simp [e]

/-- The IDLE step consumes the flag, or leaves READY alone and starts no cycle (R189, R190). -/
theorem idleStep_ready_cases :
    (s.ready = true ∧ (idleStep s).ready = false) ∨
    ((idleStep s).ready = s.ready ∧ ((idleStep s).phase = s.phase ∨ (idleStep s).phase.isConnected = false)) := by
  obtain ⟨rest, -, -, e⟩ | ⟨b, rest, -, -, -, e⟩ | ⟨-, hr, e⟩ | ⟨-, -, e⟩ := idleStep_cases s <;> rw [e]
  · exact Or.inr ⟨by simp, (s.setRxFifo rest).raiseFatal_phase_cases _ _⟩
  · exact Or.inr ⟨rfl, Or.inl rfl⟩
  · exact Or.inl ⟨hr, consume_ready s⟩
  · exact Or.inr ⟨rfl, Or.inl rfl⟩

/-- The Engine writes READY in IDLE alone. -/
theorem engineStep_ready_cases : (engineStep s).ready = s.ready ∨ (s.phase = .idle ∧ (engineStep s).ready = false) := by
  obtain ⟨-, success, e, hsuccess⟩ | ⟨hp, e⟩ | ⟨-, b, p, n, e⟩ | ⟨-, e⟩ := engineStep_cases s <;> rw [e]
  · have keeps (u : State) : (success u).ready = u.ready := by
      obtain ⟨p, hu | hu | hu⟩ := hsuccess u <;> simp [hu]
    exact Or.inl (waitStep_ready s keeps)
  · obtain ⟨-, hclear⟩ | ⟨hsame, -⟩ := idleStep_ready_cases s
    · exact Or.inr ⟨hp, hclear⟩
    · exact Or.inl hsame
  · exact Or.inl rfl
  · exact Or.inl rfl

end

/-- Every way a step can write READY (R25). -/
theorem step_ready_cases {s t : State} (h : step s = .next t) :
    t.ready = s.ready ∨ (decode s.nextEvent = .ok .setReady ∧ t.ready = true) ∨
    (t.ready = false ∧ (decode s.nextEvent = .ok .clearReady ∨ s.nextEvent = .agent .rst ∨
      (s.nextEvent = .agent .engine ∧ s.phase = .idle))) := by
  have hengine : (engineStep s.afterFetch).ready = s.ready ∨ (s.phase = .idle ∧ (engineStep s.afterFetch).ready = false) := by
    simpa using engineStep_ready_cases s.afterFetch
  obtain ⟨w, he, hx⟩ | ⟨he, rfl⟩ | ⟨v, bytes, -, rfl | ⟨hsend, rfl⟩⟩ | ⟨b, -, rfl⟩ | ⟨-, rfl⟩ | ⟨he, rfl⟩ := step_cases h
  · obtain hsame | ⟨hi, hset⟩ | ⟨hi, hclear⟩ := exec_producer_ready (isProducerOp_decodeBus w) hx
    · exact Or.inl (hsame.trans s.afterFetch_ready)
    · exact Or.inr (Or.inl ⟨by rw [he, decode, hi], hset⟩)
    · exact Or.inr (Or.inr ⟨hclear, Or.inl (by rw [he, decode, hi])⟩)
  · exact hengine.imp_right fun ⟨hp, hclear⟩ => Or.inr ⟨hclear, Or.inr (Or.inr ⟨he, hp⟩)⟩
  · exact Or.inl s.afterFetch_ready
  · refine hengine.imp_right fun ⟨hp, _⟩ => ?_
    rw [hp] at hsend
    exact absurd hsend (by decide)
  · exact Or.inl (by simp)
  · exact Or.inl (by simp)
  · exact Or.inr (Or.inr ⟨rfl, Or.inr (Or.inl he)⟩)

/-- A step from IDLE clears a set flag, or starts no cycle: it stays, closes the link or starts an effect (R187). -/
theorem step_idle_cases {s t : State} (h : step s = .next t) (hp : s.phase = .idle) :
    (s.ready = true ∧ t.ready = false) ∨ t.phase = .idle ∨ t.phase.isConnected = false ∨ t.phase = .efCmd := by
  have hfetch : s.afterFetch.phase = .idle := s.afterFetch_phase.trans hp
  have stays {p : Phase} (h : p = s.afterFetch.phase ∨ p.isConnected = false) :
      p = .idle ∨ p.isConnected = false ∨ p = .efCmd := h.imp (·.trans hfetch) Or.inl
  obtain ⟨w, -, hx⟩ | ⟨-, rfl⟩ | ⟨v, bytes, -, rfl | ⟨hsend, -⟩⟩ | ⟨b, -, rfl⟩ | ⟨-, rfl⟩ | ⟨-, rfl⟩ := step_cases h
  · obtain ⟨hsame, -⟩ | hdisc | ⟨-, hclosed⟩ | ⟨-, heffect, -⟩ := exec_producer_phase_cases (isProducerOp_decodeBus w) hx
    · exact Or.inr (stays (Or.inl hsame))
    · rw [hfetch] at hdisc
      cases hdisc
    · exact Or.inr (Or.inr (Or.inl hclosed))
    · exact Or.inr (Or.inr (Or.inr heffect))
  · rw [engineStep_idle hfetch]
    obtain ⟨hset, hclear⟩ | ⟨-, hphase⟩ := idleStep_ready_cases s.afterFetch
    · exact Or.inl ⟨s.afterFetch_ready ▸ hset, hclear⟩
    · exact Or.inr (stays hphase)
  · exact Or.inr (Or.inl hfetch)
  · rw [hp] at hsend
    exact absurd hsend (by decide)
  · exact Or.inr (stays (deliver_phase_cases _ b))
  · exact Or.inr (stays (timeoutStep_phase_cases _))
  · exact Or.inr (Or.inr (Or.inl rfl))

/-- Settles O54: the writers of READY, and the clear in the step that starts a cycle. -/
theorem flagIsConsumedAtMostOnce : Obligations.FlagIsConsumedAtMostOnce := by
  intro s t h
  refine ⟨fun hs ht => ?_, fun hs ht => ?_, fun hp ht => ?_, fun he => ?_⟩
  · obtain hsame | ⟨hset, -⟩ | ⟨hclear, -⟩ := step_ready_cases h
    · simp [hs, ht] at hsame
    · exact hset
    · simp [ht] at hclear
  · obtain hsame | ⟨-, hset⟩ | ⟨-, hwriter⟩ := step_ready_cases h
    · simp [hs, ht] at hsame
    · simp [ht] at hset
    · exact hwriter
  · obtain hready | hother := step_idle_cases h hp
    · exact hready
    · obtain ht | ht := ht <;> rw [ht] at hother <;> exact absurd hother (by decide)
  · unfold step at h
    rw [he] at h
    cases h
    rfl

end Sys2Proof.Machine
end

section
/-! Proofs of the family 41_producer_ops.md, eventual consumption (R4, R157). Suppose the flag stays pending for
ever on an open link. Then the Engine, whenever it has an enabled step, comes closer to the consume step, the
other agents' steps do not take it further away, and fairness gives it an enabled step again and again: an
infinite descent. -/

namespace Sys2Proof.Machine

/-! ### Two agents' steps, taken as they stand -/

theorem step_withEvent_engine (s : State) : step (s.withEvent (.agent .engine)) = .next (engineStep s) := rfl

theorem step_withEvent_timer (s : State) : step (s.withEvent (.agent .timer)) = .next (timeoutStep s) := rfl

/-! ### States in which the flag is pending -/

/-- The flag waits for its consume step, on an open link. -/
structure Pending (s : State) : Prop where
  inv : Inv s
  ready : s.ready = true
  fatal : s.fatal = false
  conn : s.conn = true

theorem Pending.connected {s : State} (h : Pending s) : s.phase.isConnected = true := h.inv.conn_iff.symm.trans h.conn

/-- Where the flag is pending, the Engine is enabled but in a wait without a byte (R184). -/
theorem Pending.engineEnabled_iff {s : State} (h : Pending s) :
    EngineEnabled s ↔ (s.phase.isWait = true → s.rxFifo ≠ []) := by
  have hconn := h.connected
  cases hw : s.phase.isWait with
  | true =>
    have hsend : s.phase.isSend = false := by simp [Phase.isSend, hw]
    have hidle : s.phase ≠ .idle := by intro hp; rw [hp] at hw; cases hw
    simp [EngineEnabled, hw, hsend, hidle]
  | false =>
    have hact : s.phase = .idle ∨ s.phase.isSend = true := by
      revert hconn hw
      cases s.phase <;> decide
    exact ⟨nofun, fun _ => hact.elim (fun hp => Or.inr (Or.inr ⟨hp, Or.inl h.ready⟩)) Or.inl⟩

/-- Without an enabled step the Engine holds (R184). -/
theorem Pending.engineStep_eq_self {s : State} (h : Pending s) (hno : ¬ EngineEnabled s) : engineStep s = s := by
  obtain ⟨-, hq⟩ : s.phase.isWait = true ∧ s.rxFifo = [] := by simpa [h.engineEnabled_iff] using hno
  obtain ⟨-, success, e, -⟩ | ⟨hp, -⟩ | ⟨hsend, -⟩ | ⟨-, e⟩ := engineStep_cases s
  · rw [e, waitStep, hq]
  · exact absurd (Or.inr (Or.inr ⟨hp, Or.inl h.ready⟩)) hno
  · exact absurd (Or.inl hsend) hno
  · exact e

/-! ### The Engine's work before the consume step -/

/-- How many phases lie before IDLE, on the longest way there. -/
def Phase.hopsToIdle : Phase → Nat
  | .txG0 | .efCmd => 5
  | .txG1 | .efWaitA1 => 4
  | .txWaitA | .efVal => 3
  | .txFrame | .efWaitA2 => 2
  | .txWaitD | .efWaitD => 1
  | _ => 0

/-- The steps within a phase: the frame bytes still to be sent after the next one, and in serial IDLE the
received bytes still to be discarded (R196, R213). -/
def State.phaseWork (s : State) : Nat :=
  if s.phase = .txFrame then 767 - s.txcnt.val
  else if s.phase = .idle ∧ s.variant = .serial then s.rxFifo.length
  else 0

/-- The work before the consume step: first the phases, then the steps within one. -/
def State.engineWork (s : State) : Nat ×ₗ Nat := toLex (s.phase.hopsToIdle, s.phaseWork)

/-- Moving to a phase nearer to IDLE lessens the work, whatever else the step does. -/
theorem engineWork_setPhase_lt {s u : State} {p q : Phase} (hp : s.phase = p) (h : q.hopsToIdle < p.hopsToIdle) :
    (u.setPhase q).engineWork < s.engineWork := Prod.Lex.toLex_lt_toLex.mpr (Or.inl (hp ▸ h))

theorem engineWork_lt_of_phaseWork_lt {s t : State} (hp : t.phase = s.phase) (h : t.phaseWork < s.phaseWork) :
    t.engineWork < s.engineWork := Prod.Lex.toLex_lt_toLex.mpr (Or.inr ⟨congrArg Phase.hopsToIdle hp, h⟩)

/-- A WAIT step with a byte in the FIFO that does not end in a fatal error does the phase's success action. -/
theorem engineWork_lt_of_wait {s : State} {success : State → State} (e : engineStep s = waitStep s success)
    (hq : s.rxFifo ≠ []) (hfatal : (engineStep s).fatal = false)
    (hless : ∀ u, (success u).engineWork < s.engineWork) : (engineStep s).engineWork < s.engineWork := by
  rw [e] at hfatal ⊢
  obtain ⟨hnil, -⟩ | ⟨b, rest, -, ⟨-, e⟩ | ⟨-, -, e⟩ | ⟨-, -, e⟩⟩ := waitStep_cases s success
  · exact absurd hnil hq
  · rw [e]
    exact hless _
  · simp [e] at hfatal
  · simp [e] at hfatal

/-- Each byte of the frame in flight but the last is one step less to do in TX_FRAME (R196). -/
theorem engineWork_frameStep_lt {s : State} (hp : s.phase = .txFrame) : (frameStep s).engineWork < s.engineWork := by
  unfold frameStep
  split
  · exact engineWork_setPhase_lt hp (by split <;> decide)
  · next hlast =>
    refine engineWork_lt_of_phaseWork_lt rfl ?_
    have hnext : (s.txcnt + 1).val = s.txcnt.val + 1 := Fin.val_add_one_of_lt (Fin.lt_last_iff_ne_last.mpr hlast)
    simp only [State.phaseWork, State.setTxcnt_phase, State.emit_phase, hp, State.setTxcnt_txcnt, hnext]
    simp
    omega

/-- An IDLE step after which the flag is still pending has discarded a received byte (R189, R213). -/
theorem engineWork_idleStep_lt {s : State} (h : Pending s) (ht : Pending (idleStep s)) (hp : s.phase = .idle) :
    (idleStep s).engineWork < s.engineWork := by
  obtain ⟨hready, hfatal⟩ := And.intro ht.ready ht.fatal
  obtain ⟨rest, -, -, e⟩ | ⟨b, rest, hv, hq, -, e⟩ | ⟨-, -, e⟩ | ⟨-, hr, -⟩ := idleStep_cases s
  · simp [e] at hfatal
  · rw [e]
    exact engineWork_lt_of_phaseWork_lt rfl (by simp [State.phaseWork, hp, hv, hq])
  · simp [e, consume_ready] at hready
  · simp [h.ready] at hr

/-- Every enabled Engine step that leaves the flag pending is a step towards the consume. -/
theorem Pending.engineWork_engineStep_lt {s : State} (h : Pending s) (ht : Pending (engineStep s))
    (he : EngineEnabled s) : (engineStep s).engineWork < s.engineWork := by
  have hbyte := h.engineEnabled_iff.mp he
  have hconn := h.connected
  cases hp : s.phase <;> rw [hp] at hbyte hconn
  case idle => rw [engineStep_idle hp] at ht ⊢; exact engineWork_idleStep_lt h ht hp
  case txFrame => rw [engineStep_txFrame hp]; exact engineWork_frameStep_lt hp
  case txG0 => rw [engineStep_txG0 hp]; exact engineWork_setPhase_lt hp (by decide)
  case txG1 => rw [engineStep_txG1 hp]; exact engineWork_setPhase_lt hp (by decide)
  case efCmd => rw [engineStep_efCmd hp]; exact engineWork_setPhase_lt hp (by split <;> decide)
  case efVal => rw [engineStep_efVal hp]; exact engineWork_setPhase_lt hp (by decide)
  case txWaitA =>
    exact engineWork_lt_of_wait (engineStep_txWaitA hp) (hbyte rfl) ht.fatal fun _ => engineWork_setPhase_lt hp (by decide)
  case txWaitD =>
    exact engineWork_lt_of_wait (engineStep_txWaitD hp) (hbyte rfl) ht.fatal fun _ => engineWork_setPhase_lt hp (by decide)
  case efWaitA1 =>
    exact engineWork_lt_of_wait (engineStep_efWaitA1 hp) (hbyte rfl) ht.fatal fun _ =>
      engineWork_setPhase_lt hp (by split <;> decide)
  case efWaitA2 =>
    exact engineWork_lt_of_wait (engineStep_efWaitA2 hp) (hbyte rfl) ht.fatal fun _ => engineWork_setPhase_lt hp (by decide)
  case efWaitD =>
    exact engineWork_lt_of_wait (engineStep_efWaitD hp) (hbyte rfl) ht.fatal fun _ => engineWork_setPhase_lt hp (by decide)
  all_goals cases hconn

/-! ### The other agents' steps -/

/-- What the step `a` of another agent than the Engine may change, of what the Engine's work depends on: an
EFFECT leaves IDLE, and a delivery adds a byte. -/
structure OtherAgentsStep (a : AgentStep) (s t : State) : Prop where
  phase : t.phase = s.phase ∨ (s.phase = .idle ∧ t.phase = .efCmd)
  rxFifo : t.rxFifo = s.rxFifo ∨ (agentOf a = some .device ∧ t.rxFifo ≠ [])
  txcnt : t.txcnt = s.txcnt
  variant : t.variant = s.variant

theorem OtherAgentsStep.refl (a : AgentStep) (s : State) : OtherAgentsStep a s s := ⟨Or.inl rfl, Or.inl rfl, rfl, rfl⟩

/-- A step of another agent that leaves the flag pending changes no more than that. -/
theorem Pending.otherAgentsStep {a : AgentStep} {s t : State} (h : Pending s) (ht : Pending t) (ha : a ≠ .engine)
    (hstep : step (s.withEvent (.agent a)) = .next t) : OtherAgentsStep a s t := by
  obtain ⟨hready, hfatal, hopen⟩ := And.intro ht.ready (And.intro ht.fatal ht.connected)
  have hdisc : s.phase ≠ .disc := fun hp => absurd (hp ▸ h.connected) (by decide)
  cases a with
  | producer w =>
    have hop := isProducerOp_decodeBus w
    obtain ⟨-, -, -, -, -, htxcnt, -⟩ := exec_producer_frame hop hstep
    have hvariant := (exec_producer_fb_variant hop hstep).2.resolve_right fun hp => hdisc hp.1
    obtain ⟨hp, hq⟩ | hp | ⟨-, hclosed⟩ | ⟨hp, heffect, hq⟩ := exec_producer_phase_cases hop hstep
    · exact ⟨Or.inl hp, Or.inl hq, htxcnt, hvariant⟩
    · exact absurd hp hdisc
    · rw [hclosed] at hopen
      cases hopen
    · exact ⟨Or.inr ⟨hp, heffect⟩, Or.inl hq, htxcnt, hvariant⟩
  | engine => exact absurd rfl ha
  | device b =>
    cases (runEvent_device b s).symm.trans hstep
    obtain ⟨-, e⟩ | ⟨-, -, e⟩ | ⟨-, -, e⟩ := deliver_cases s b <;> rw [e] at hfatal ⊢
    · exact .refl _ s
    · simp at hfatal
    · exact ⟨Or.inl rfl, Or.inr ⟨rfl, by simp⟩, rfl, rfl⟩
  | timer =>
    cases (step_withEvent_timer s).symm.trans hstep
    obtain ⟨-, -, -, e⟩ | ⟨-, e⟩ := timeoutStep_cases s <;> rw [e] at hfatal ⊢
    · simp at hfatal
    · exact .refl _ s
  | rst =>
    cases hstep
    cases hready

/-- Another agent's step does not disable the Engine. -/
theorem OtherAgentsStep.engineEnabled {a : AgentStep} {s t : State} (h : OtherAgentsStep a s t) (hs : Pending s)
    (ht : Pending t) (he : EngineEnabled s) : EngineEnabled t := by
  rw [ht.engineEnabled_iff]
  intro hw
  obtain hp | ⟨-, hp⟩ := h.phase <;> rw [hp] at hw
  · obtain hq | ⟨-, hq⟩ := h.rxFifo
    · rw [hq]
      exact hs.engineEnabled_iff.mp he hw
    · exact hq
  · cases hw

/-- Another agent's step leaves the Engine's work as it is, if it starts no effect and delivers no byte in
serial IDLE. -/
theorem OtherAgentsStep.engineWork_eq {a : AgentStep} {s t : State} (h : OtherAgentsStep a s t)
    (hquiet : s.phase = .idle → t.phase ≠ .efCmd ∧ (s.variant = .serial → agentOf a ≠ some .device)) :
    t.engineWork = s.engineWork := by
  have hp : t.phase = s.phase := h.phase.resolve_right fun ⟨hidle, heffect⟩ => (hquiet hidle).1 heffect
  have hq (hserial : s.phase = .idle ∧ s.variant = .serial) : t.rxFifo = s.rxFifo :=
    h.rxFifo.resolve_right fun ⟨hdevice, _⟩ => (hquiet hserial.1).2 hserial.2 hdevice
  simp only [State.engineWork, State.phaseWork, hp, h.txcnt, h.variant]
  by_cases hserial : s.phase = .idle ∧ s.variant = .serial
  · rw [hq hserial]
  · simp only [hserial, if_false]

/-! ### A run in which the flag stays pending -/

/-- A run that contradicts R157: the flag is pending in each of its states. -/
structure PendingRun (entry : Nat → AgentStep) (state : Nat → State) : Prop where
  run : IsRun entry state
  pending : ∀ n, Pending (state n)

/-- The Engine's step of a run. -/
theorem IsRun.engine_step {entry : Nat → AgentStep} {state : Nat → State} (h : IsRun entry state) {n : Nat}
    (he : entry n = .engine) : state (n + 1) = engineStep (state n) := by
  have hstep := h n
  rw [he, step_withEvent_engine] at hstep
  exact (Host.Outcome.next.inj hstep).symm

/-- The Engine and the Timer have one entry each. -/
theorem eq_engine_of_agentOf {a : AgentStep} (h : agentOf a = some .engine) : a = .engine := by
  cases a <;> simp_all [agentOf]

theorem eq_timer_of_agentOf {a : AgentStep} (h : agentOf a = some .timer) : a = .timer := by
  cases a <;> simp_all [agentOf]

namespace PendingRun

variable {entry : Nat → AgentStep} {state : Nat → State}

theorem otherAgentsStep (h : PendingRun entry state) {n : Nat} (he : entry n ≠ .engine) :
    OtherAgentsStep (entry n) (state n) (state (n + 1)) :=
  (h.pending n).otherAgentsStep (h.pending (n + 1)) he (h.run n)

/-- The Timer never takes its enabled step: it is a fatal error (R214). -/
theorem not_timer_enabled (h : PendingRun entry state) {n : Nat} (he : entry n = .timer) :
    ¬ Agent.timer.Enabled (state n) := by
  intro henabled
  have hstep := h.run n
  rw [he, step_withEvent_timer] at hstep
  obtain ⟨-, -, -, e⟩ | ⟨hno, -⟩ := timeoutStep_cases (state n)
  · have hfatal := (h.pending (n + 1)).fatal
    simp [← Host.Outcome.next.inj hstep, e] at hfatal
  · exact hno henabled

/-- While the Engine has no enabled step, PHASE stays (R184). -/
theorem phase_eq_of_not_enabled (h : PendingRun entry state) {n : Nat} (hno : ∀ m, n ≤ m → ¬ EngineEnabled (state m)) :
    ∀ m, n ≤ m → (state m).phase = (state n).phase := by
  intro m hm
  induction m, hm using Nat.le_induction with
  | base => rfl
  | succ m hm ih =>
    rw [← ih]
    by_cases he : entry m = .engine
    · rw [h.run.engine_step he, (h.pending m).engineStep_eq_self (hno m hm)]
    · refine (h.otherAgentsStep he).phase.resolve_right fun ⟨hidle, _⟩ => hno m hm ?_
      exact Or.inr (Or.inr ⟨hidle, Or.inl (h.pending m).ready⟩)

/-- Every wait ends: by a byte, or by the Timer's step, which fairness gives (R214); the wait without a
timeout by its premise. -/
theorem exists_engineEnabled (h : PendingRun entry state) (htimer : WeaklyFairTo .timer entry state)
    (hwait : ∀ n, (state n).phase = .efWaitD → ∃ m, n ≤ m ∧ ((state m).phase ≠ .efWaitD ∨ (state m).rxFifo ≠ []))
    (n : Nat) : ∃ m, n ≤ m ∧ EngineEnabled (state m) := by
  by_contra hnone
  have hno : ∀ m, n ≤ m → ¬ EngineEnabled (state m) := fun m hm he => hnone ⟨m, hm, he⟩
  have hphase := h.phase_eq_of_not_enabled hno
  have hwaits : ∀ m, n ≤ m → (state m).phase.isWait = true ∧ (state m).rxFifo = [] := fun m hm => by
    simpa [(h.pending m).engineEnabled_iff] using hno m hm
  by_cases hD : (state n).phase = .efWaitD
  · obtain ⟨m, hm, hp | hq⟩ := hwait n hD
    · exact hp ((hphase m hm).trans hD)
    · exact hq (hwaits m hm).2
  · have henabled : ∀ m, n ≤ m → Agent.timer.Enabled (state m) := fun m hm =>
      ⟨(hwaits m hm).1, hphase m hm ▸ hD, (hwaits m hm).2⟩
    obtain ⟨m, hm, ha⟩ := htimer n henabled
    exact h.not_timer_enabled (eq_timer_of_agentOf ha) (henabled m hm)

/-- The Engine takes an enabled step after every point: once enabled it stays so until it steps. -/
theorem exists_engine_step (h : PendingRun entry state) (hengine : WeaklyFairTo .engine entry state)
    (henabled : ∀ n, ∃ m, n ≤ m ∧ EngineEnabled (state m)) (n : Nat) :
    ∃ m, n ≤ m ∧ entry m = .engine ∧ EngineEnabled (state m) := by
  by_contra hnone
  obtain ⟨k, hk, hkenabled⟩ := henabled n
  have hidle : ∀ m, k ≤ m → EngineEnabled (state m) → entry m ≠ .engine := fun m hm he ha =>
    hnone ⟨m, hk.trans hm, ha, he⟩
  have hstays : ∀ m, k ≤ m → EngineEnabled (state m) := by
    intro m hm
    induction m, hm using Nat.le_induction with
    | base => exact hkenabled
    | succ m hm ih =>
      exact (h.otherAgentsStep (hidle m hm ih)).engineEnabled (h.pending m) (h.pending (m + 1)) ih
  obtain ⟨m, hm, ha⟩ := hengine k hstays
  exact hidle m hm (hstays m hm) (eq_engine_of_agentOf ha)

/-- An enabled Engine step lessens the Engine's work. -/
theorem engineWork_lt (h : PendingRun entry state) {n : Nat} (he : entry n = .engine) (henabled : EngineEnabled (state n)) :
    (state (n + 1)).engineWork < (state n).engineWork := by
  have ht := h.pending (n + 1)
  rw [h.run.engine_step he] at ht ⊢
  exact (h.pending n).engineWork_engineStep_lt ht henabled

/-- Where no effect is accepted and no byte delivered in IDLE, no step adds to the Engine's work. -/
theorem engineWork_le (h : PendingRun entry state) {n : Nat}
    (hquiet : (state n).phase = .idle →
      (state (n + 1)).phase ≠ .efCmd ∧ ((state n).variant = .serial → agentOf (entry n) ≠ some .device)) :
    (state (n + 1)).engineWork ≤ (state n).engineWork := by
  by_cases he : entry n = .engine
  · by_cases henabled : EngineEnabled (state n)
    · exact (h.engineWork_lt he henabled).le
    · rw [h.run.engine_step he, (h.pending n).engineStep_eq_self henabled]
  · exact ((h.otherAgentsStep he).engineWork_eq hquiet).le

/-- The descent: from a point on the work never grows, and it shrinks after every point. -/
theorem false_of_quiet (h : PendingRun entry state) {N : Nat}
    (hsteps : ∀ n, ∃ m, n ≤ m ∧ entry m = .engine ∧ EngineEnabled (state m))
    (hquiet : ∀ n, N ≤ n → (state n).phase = .idle →
      (state (n + 1)).phase ≠ .efCmd ∧ ((state n).variant = .serial → agentOf (entry n) ≠ some .device)) : False := by
  have hanti : Antitone fun k => (state (N + k)).engineWork :=
    antitone_nat_of_succ_le fun k => h.engineWork_le (hquiet (N + k) (Nat.le_add_right N k))
  obtain ⟨k, hmin⟩ := WellFoundedLT.antitone_chain_condition hanti
  obtain ⟨m, hm, he, henabled⟩ := hsteps (N + k)
  obtain ⟨j, rfl⟩ := Nat.exists_eq_add_of_le (Nat.le_of_add_right_le hm)
  have hlt := h.engineWork_lt he henabled
  rw [Nat.add_assoc, ← hmin (j + 1) (by omega), ← hmin j (by omega)] at hlt
  exact lt_irrefl _ hlt

end PendingRun

/-! ### What ends the wait for the consume step -/

/-- Every state of a run meets the invariant if the first one does. -/
theorem IsRun.inv {entry : Nat → AgentStep} {state : Nat → State} (h : IsRun entry state) (h0 : Inv (state 0)) (n : Nat) :
    Inv (state n) := by
  induction n with
  | zero => exact h0
  | succ n ih => exact everyStepKeepsTheInvariant ((state n).withEvent (.agent (entry n))) _ { ih with } (h n)

/-- An agent's step that decodes to CLEAR_READY is a transaction. -/
theorem producer_of_decode_clearReady {a : AgentStep} (h : decode (.agent a) = .ok .clearReady) :
    ∃ w, a = .producer w ∧ decodeBus w = .clearReady := by
  cases a with
  | producer w => exact ⟨w, rfl, Except.ok.inj h⟩
  | device b => cases (decodeDevice_sound (decode_device_eq_ok.mp h)).2
  | engine | timer | rst => cases h

/-- The ways R157 names in which the flag stops being pending at entry n. -/
def FlagLeaves (entry : Nat → AgentStep) (state : Nat → State) (n : Nat) : Prop :=
  (entry n = .engine ∧ (state n).phase = .idle ∧ (state (n + 1)).ready = false) ∨
  (∃ w, entry n = .producer w ∧ decodeBus w = .clearReady) ∨ entry n = .rst ∨
  (state n).fatal = true ∨ (state n).conn = false

/-- READY falls in no other way (R25, R156). -/
theorem IsRun.ready_or_flagLeaves {entry : Nat → AgentStep} {state : Nat → State} (h : IsRun entry state) {n : Nat}
    (hn : (state n).ready = true) : (state (n + 1)).ready = true ∨ FlagLeaves entry state n := by
  cases hnext : (state (n + 1)).ready with
  | true => exact Or.inl rfl
  | false =>
    obtain ⟨-, hfalls, -⟩ := flagIsConsumedAtMostOnce _ _ (h n)
    obtain hclear | hrst | ⟨hengine, hp⟩ := hfalls hn hnext
    · exact Or.inr (Or.inr (Or.inl (producer_of_decode_clearReady hclear)))
    · exact Or.inr (Or.inr (Or.inr (Or.inl (by injection hrst))))
    · refine Or.inr (Or.inl ⟨?_, hp, hnext⟩)
      injection hengine

/-- Settles O60: a run in which nothing ends the wait would be pending for ever, which fairness excludes. -/
theorem flagIsEventuallyConsumed : Obligations.FlagIsEventuallyConsumed := by
  intro entry state hrun hengine htimer hinv hready hwait ⟨N, hquiet⟩
  by_contra hnone
  have hstays : ∀ n, (∀ m, m ≤ n → (state m).ready = true) → ¬ FlagLeaves entry state n := fun n hm hl => hnone ⟨n, hm, hl⟩
  have hall : ∀ n m, m ≤ n → (state m).ready = true := by
    intro n
    induction n with
    | zero => intro m hm; rwa [Nat.le_zero.mp hm]
    | succ n ih =>
      have hnext := (hrun.ready_or_flagLeaves (ih n le_rfl)).resolve_right (hstays n ih)
      exact fun m hm => (Nat.le_succ_iff.mp hm).elim (ih m) fun e => e ▸ hnext
  have hpending (n : Nat) : Pending (state n) := by
    have hno := hstays n (hall n)
    simp only [FlagLeaves, not_or, Bool.not_eq_true, Bool.not_eq_false] at hno
    obtain ⟨-, -, -, hfatal, hconn⟩ := hno
    exact ⟨hrun.inv hinv n, hall n n le_rfl, hfatal, hconn⟩
  have hp : PendingRun entry state := ⟨hrun, hpending⟩
  exact hp.false_of_quiet (hp.exists_engine_step hengine (hp.exists_engineEnabled htimer hwait)) hquiet

end Sys2Proof.Machine
end

section
/-! Proofs of the family 42_link_fsm.md, one step of each agent: the commands that start Engine sequences, and what
the Engine, the Device and the Timer do in each class of phase (R180 to R184, R189, R190, R210 to R214). -/

namespace Sys2Proof.Machine

/-! ### The commands -/

/-- Settles O24: the two rejections of CONNECT and its acceptance. -/
theorem connectStartsTheHandshake : Obligations.ConnectStartsTheHandshake := by
  refine ⟨fun _ hop => decodeTransaction_of_selects (i := .connect) ⟨rfl, rfl, hop⟩, fun s => ?_⟩
  simp only [exec, execConnect]
  split_ifs <;> rfl

/-- Settles O25: the three rejections of DISCONNECT and its acceptance. -/
theorem disconnectClosesTheLink : Obligations.DisconnectClosesTheLink := by
  refine ⟨fun _ hop => decodeTransaction_of_selects (i := .disconnect) ⟨rfl, rfl, hop⟩, fun s => ?_⟩
  simp only [exec, execDisconnect]
  split_ifs <;> rfl

/-- Settles O26: the six rejections of EFFECT and its acceptance. -/
theorem effectLatchesTheCommand : Obligations.EffectLatchesTheCommand := by
  refine ⟨fun _ hop => decodeTransaction_of_selects (i := .effect _ _ _) ⟨rfl, rfl, hop, rfl, rfl, rfl⟩,
    fun code hasval val s => ?_⟩
  simp only [exec, execEffect, char, ne_eq, not_or]
  iterate 6
    split
    · rfl
  rfl

/-! ### Fatal entry -/

/-- Fatal entry, with FATAL = 1 and with FATAL = 0 (R241, R245). -/
theorem State.raiseFatal_eq_ite (s : State) (c : Cause) (b : Byte) :
    s.raiseFatal c b = if s.fatal = false then fatalEntry s c b else s := by
  obtain ⟨hfatal, e⟩ | ⟨hfatal, e⟩ := s.raiseFatal_cases c b <;> rw [e, hfatal] <;> rfl

/-- Fatal entry after a popped byte records the same as before it: it empties the FIFO (R241). -/
theorem State.raiseFatal_setRxFifo {s : State} (hfatal : s.fatal = false) (rest : List Byte) (c : Cause) (b : Byte) :
    (s.setRxFifo rest).raiseFatal c b = fatalEntry s c b := (s.setRxFifo rest).raiseFatal_of_not_fatal c b hfatal

/-- Fatal entry adds no byte to the FIFO. -/
theorem State.raiseFatal_rxFifo_length_le (s : State) (c : Cause) (b : Byte) :
    (s.raiseFatal c b).rxFifo.length ≤ s.rxFifo.length := by
  obtain ⟨-, e⟩ | ⟨-, e⟩ := s.raiseFatal_cases c b <;> rw [e]
  exact Nat.zero_le _

/-! ### The Device and the Timer -/

/-- The phases in which a delivered byte is discarded, listed (R210). -/
theorem Phase.rxOpen_eq_false_iff (p : Phase) :
    p.rxOpen = false ↔ p = .disc ∨ p = .dcQ0 ∨ p = .dcQ1 ∨ p = .fltZ ∨ p = .fltQ0 ∨ p = .fltQ1 ∨ p = .halt := by
  cases p <;> decide

/-- Settles O43: the three cases of a delivery. -/
theorem deliveryQueuesOrOverflows : Obligations.DeliveryQueuesOrOverflows := by
  intro b s
  refine (runEvent_device b s).trans (congrArg _ ?_)
  rw [← State.raiseFatal_eq_ite]
  have hdiscards := s.phase.rxOpen_eq_false_iff
  obtain ⟨hclosed, e⟩ | ⟨hopen, hfull, e⟩ | ⟨hopen, hroom, e⟩ := deliver_cases s b <;> rw [e]
  · rw [if_pos (hdiscards.mp hclosed)]
  · rw [if_neg (by simp [← hdiscards, hopen]), if_pos hfull]
  · rw [if_neg (by simp [← hdiscards, hopen]), if_neg (Nat.not_le_of_lt hroom)]
    rfl

/-- Settles O45: the two cases of a timeout. -/
theorem timeoutOnlyInQualifyingStates : Obligations.TimeoutOnlyInQualifyingStates := by
  intro s
  refine (step_withEvent_timer s).trans (congrArg _ ?_)
  obtain ⟨hwait, hne, hq, e⟩ | ⟨hno, e⟩ := timeoutStep_cases s <;> rw [e]
  · rw [State.raiseFatal_eq_ite]
    simp only [hwait, hne, hq, ne_eq, not_false_eq_true, true_and]
  · rw [if_neg fun ⟨hwait, hne, hq, _⟩ => hno ⟨hwait, hne, hq⟩]

/-! ### WAIT phases -/

/-- In a WAIT phase the Engine checks a byte, and its success action pops nothing more (R211). -/
theorem engineStep_of_isWait {s : State} (hw : s.phase.isWait = true) :
    ∃ success : State → State, engineStep s = waitStep s success ∧ ∀ u, (success u).rxFifo = u.rxFifo := by
  obtain ⟨-, success, e, hsuccess⟩ | ⟨hp, -⟩ | ⟨hsend, -⟩ | ⟨hp | hp, -⟩ := engineStep_cases s
  · refine ⟨success, e, fun u => ?_⟩
    obtain ⟨p, hu | hu | hu⟩ := hsuccess u <;> rw [hu] <;> rfl
  · rw [hp] at hw; cases hw
  · simp [Phase.isSend, hw] at hsend
  · rw [hp] at hw; cases hw
  · rw [hp] at hw; cases hw

theorem waitStep_of_no_byte {s : State} (success : State → State) (hq : s.rxFifo = []) : waitStep s success = s := by
  rw [waitStep, hq]

theorem waitStep_of_ackCode {s : State} (success : State → State) {rest : List Byte}
    (hq : s.rxFifo = s.phase.ackCode :: rest) : waitStep s success = success (s.setRxFifo rest) := by
  simp only [waitStep, hq, if_true]

theorem waitStep_of_ne_ackCode {s : State} (success : State → State) {b : Byte} {rest : List Byte}
    (hq : s.rxFifo = b :: rest) (hb : b ≠ s.phase.ackCode) :
    waitStep s success =
      if b = char .E then (s.setRxFifo rest).raiseFatal .deviceError b else (s.setRxFifo rest).raiseFatal .badByte b := by
  simp only [waitStep, hq, if_neg hb]

/-- Settles O35: the byte checked is popped, which the fatal entry does not record. -/
theorem waitStepRejectsOtherBytes : Obligations.WaitStepRejectsOtherBytes := by
  intro s hw hfatal
  rw [step_withEvent_engine]
  obtain ⟨success, e, -⟩ := engineStep_of_isWait hw
  refine ⟨fun b rest hq hb => ?_, fun hq => by rw [e, waitStep_of_no_byte success hq]⟩
  rw [e, waitStep_of_ne_ackCode success hq hb, State.raiseFatal_setRxFifo hfatal, State.raiseFatal_setRxFifo hfatal]
  rfl

/-- Where the Engine checks a byte, the awaited one is popped and the success action follows (R211). -/
theorem step_of_ackCode {s : State} {success : State → State} {p : Phase} {rest : List Byte} (hp : s.phase = p)
    (e : engineStep s = waitStep s success) (hq : s.rxFifo = p.ackCode :: rest) :
    step (s.withEvent (.agent .engine)) = .next (success (s.setRxFifo rest)) := by
  rw [step_withEvent_engine, e, waitStep_of_ackCode success (hp ▸ hq)]

/-- Settles O36: each WAIT phase by its success action. -/
theorem waitStepAcceptsTheAwaitedByte : Obligations.WaitStepAcceptsTheAwaitedByte := fun _ _ =>
  ⟨fun hp hq => step_of_ackCode hp (engineStep_hsWaitS hp) hq, fun hp hq => step_of_ackCode hp (engineStep_hsWaitA hp) hq,
    fun hp hq => step_of_ackCode hp (engineStep_txWaitA hp) hq, fun hp hq => step_of_ackCode hp (engineStep_txWaitD hp) hq,
    fun hp hq => step_of_ackCode hp (engineStep_efWaitA1 hp) hq,
    fun hp hq => step_of_ackCode hp (engineStep_efWaitA2 hp) hq,
    fun hp hq => step_of_ackCode hp (engineStep_efWaitD hp) hq⟩

/-! ### IDLE -/

/-- In the serial variant a received byte goes before the flag (R189, R213). -/
theorem idleStep_of_serial_byte {s : State} {b : Byte} {rest : List Byte} (hv : s.variant = .serial)
    (hq : s.rxFifo = b :: rest) :
    idleStep s = if b = char .E then (s.setRxFifo rest).raiseFatal .deviceError b else s.setRxFifo rest := by
  simp [idleStep, serialIdleReceive, hv, hq]

/-- With no byte to receive, the flag decides (R189). -/
theorem idleStep_of_no_byte {s : State} (h : s.variant = .socket ∨ s.rxFifo = []) :
    idleStep s = if s.ready = true then consume s else s := by
  refine if_neg fun ⟨hv, hq⟩ => ?_
  obtain hsocket | hnil := h
  · rw [hv] at hsocket; cases hsocket
  · exact hq hnil

/-- A consume step pops no received byte, unless it is fatal (R190). -/
theorem consume_rxFifo {s : State} (hfatal : (consume s).fatal = false) : (consume s).rxFifo = s.rxFifo := by
  obtain ⟨-, e⟩ | ⟨-, e⟩ := consume_cases s <;> rw [e] at hfatal ⊢
  · rfl
  · simp at hfatal

/-- Settles O33: a serial byte, then the flag, then a hold. -/
theorem idleStepPriority : Obligations.IdleStepPriority := by
  intro s hp hfatal
  rw [step_withEvent_engine, engineStep_idle hp]
  refine ⟨fun b rest hv hq => ?_, fun h => congrArg _ (idleStep_of_no_byte h), fun hv => ⟨_, rfl, ?_⟩⟩
  · rw [idleStep_of_serial_byte hv hq, State.raiseFatal_setRxFifo hfatal]
    refine congrArg _ (ite_congr rfl (fun hb => ?_) fun _ => rfl)
    rw [hb]
  · rw [idleStep_of_no_byte (Or.inl hv)]
    split
    · exact ⟨consume_ready s, consume_tx s, consume_rxFifo⟩
    · next hr => exact ⟨Bool.eq_false_of_not_eq_true hr, rfl, fun _ => rfl⟩

/-- The consume step of a Frame Buffer with every pixel set (R190). -/
theorem engineStep_consume {s : State} (hp : s.phase = .idle) (hready : s.ready = true)
    (hno : s.variant = .socket ∨ s.rxFifo = []) (hset : ∀ p < 256, s.fb.valid p = true) :
    engineStep s = { s with
      ready := false, snap := encodeFrame s.variant s.fb.rgb, txcnt := 0,
      phase := if s.variant = .socket then .txG0 else .txG1 } :=
  (engineStep_idle hp).trans <| (idleStep_of_no_byte hno).trans <|
    (if_pos hready).trans (if_pos (s.fb.allValid_iff.mpr hset))

/-- Settles O34: the two cases of a consume step. -/
theorem consumeTakesTheSnapshot : Obligations.ConsumeTakesTheSnapshot := by
  intro s hp hready hfatal hno
  refine ⟨fun hset => congrArg _ (engineStep_consume hp hready hno hset), fun ⟨p, hlt, hunset⟩ => ?_⟩
  rw [step_withEvent_engine, engineStep_idle hp, idleStep_of_no_byte hno, if_pos hready]
  obtain ⟨hall, -⟩ | ⟨-, e⟩ := consume_cases s
  · simp [s.fb.allValid_iff.mp hall p hlt] at hunset
  · rw [e, (s.setReady false).raiseFatal_of_not_fatal _ _ hfatal]
    rfl

/-! ### Holds -/

/-- A WAIT step pops a byte if there is one, and changes nothing otherwise. -/
theorem waitStep_eq_self_iff {s : State} {success : State → State} (hs : ∀ u, (success u).rxFifo = u.rxFifo) :
    waitStep s success = s ↔ s.rxFifo = [] := by
  refine ⟨fun h => ?_, waitStep_of_no_byte success⟩
  by_contra hne
  have hpop : (waitStep s success).rxFifo.length < s.rxFifo.length := by
    obtain ⟨hq, -⟩ | ⟨b, rest, hq, ⟨-, e⟩ | ⟨-, -, e⟩ | ⟨-, -, e⟩⟩ := waitStep_cases s success
    · exact absurd hq hne
    · rw [e, hs, hq]; exact Nat.lt_succ_self _
    · rw [e, hq]; exact Nat.lt_succ_of_le ((s.setRxFifo rest).raiseFatal_rxFifo_length_le _ _)
    · rw [e, hq]; exact Nat.lt_succ_of_le ((s.setRxFifo rest).raiseFatal_rxFifo_length_le _ _)
  rw [h] at hpop
  exact Nat.lt_irrefl _ hpop

/-- An IDLE step pops a serial byte if there is one, clears the flag if it is set, and changes nothing otherwise. -/
theorem idleStep_eq_self_iff (s : State) :
    idleStep s = s ↔ ¬ (s.ready = true ∨ (s.variant = .serial ∧ s.rxFifo ≠ [])) := by
  obtain ⟨rest, hv, hq, e⟩ | ⟨b, rest, hv, hq, -, e⟩ | ⟨-, hr, e⟩ | ⟨hno, hr, e⟩ := idleStep_cases s <;> rw [e]
  · refine iff_of_false (fun h => ?_) (by simp [hv, hq])
    have hle := (s.setRxFifo rest).raiseFatal_rxFifo_length_le .deviceError (char .E)
    rw [h, hq] at hle
    exact Nat.not_succ_le_self _ hle
  · refine iff_of_false (fun h => ?_) (by simp [hv, hq])
    have hrest := (congrArg State.rxFifo h).trans hq
    exact List.cons_ne_self b rest hrest.symm
  · refine iff_of_false (fun h => ?_) (by simp [hr])
    have hclear := consume_ready s
    rw [h, hr] at hclear
    cases hclear
  · exact iff_of_true rfl (by simpa [hr] using hno)

theorem engineEnabled_of_isWait {s : State} (hw : s.phase.isWait = true) : EngineEnabled s ↔ s.rxFifo ≠ [] := by
  have hidle : s.phase ≠ .idle := by intro hp; rw [hp] at hw; cases hw
  simp [EngineEnabled, Phase.isSend, hw, hidle]

/-- The Engine's step changes nothing exactly when it is not enabled, class of phase by class of phase. -/
theorem engineStep_eq_self_iff (s : State) : engineStep s = s ↔ ¬ EngineEnabled s := by
  obtain ⟨hw, -⟩ | ⟨hp, e⟩ | ⟨hsend, b, p, n, e⟩ | ⟨hp, e⟩ := engineStep_cases s
  · obtain ⟨success, e, hs⟩ := engineStep_of_isWait hw
    rw [e, waitStep_eq_self_iff hs, engineEnabled_of_isWait hw, not_not]
  · rw [e, idleStep_eq_self_iff]
    simp [EngineEnabled, hp, Phase.isSend, Phase.isRest, Phase.isWait]
  · refine iff_of_false (fun h => ?_) (not_not_intro (Or.inl hsend))
    have htx : s.tx ++ [b] = s.tx := congrArg State.tx (e.symm.trans h)
    simp at htx
  · refine iff_of_true e ?_
    obtain hp | hp := hp <;> simp [EngineEnabled, hp, Phase.isSend, Phase.isRest, Phase.isWait]

/-- Settles O32: the Engine's pushed entry is its step. -/
theorem engineHoldsExactlyWhenNotEnabled : Obligations.EngineHoldsExactlyWhenNotEnabled := fun s => by
  rw [step_withEvent_engine, Host.Outcome.next.injEq, engineStep_eq_self_iff]

end Sys2Proof.Machine
end

section
/-! Proofs of the family 42_link_fsm.md, emissions: in each SEND phase the Engine's step and the meaning of the token
being sent are one step (R91, R185, R191, R196, R198, R200, R203, R242). -/

namespace Sys2Proof.Machine

/-- A token whose guard holds means the Engine's step. -/
theorem emission_eq_of_engineStep {s t : State} {emits : Bool} (hemits : emits = true) (e : engineStep s = t) :
    emission emits s = .next t := (emission_of_emits s hemits).trans (congrArg _ e)

/-- A token whose guard holds is sent by the Engine's step. -/
theorem sends_of_emits {s t : State} {i : Instr} {emits : Bool} (hmeaning : exec i s = emission emits s)
    (hemits : emits = true) (e : engineStep s = t) : Sends s i t :=
  ⟨hmeaning.trans (emission_eq_of_engineStep hemits e), congrArg _ e⟩

/-- HS_G1 and TX_G1 send `G`, a token of its own in the serial variant and the end of one in the socket variant. -/
theorem sends_go {s : State} {q : Phase} (hp : s.phase = .hsG1 ∨ s.phase = .txG1)
    (e : engineStep s = (s.emit (char .G)).setPhase q) :
    Sends s (if s.variant = .socket then .tokGoSocket else .tokGoSerial) { s with tx := s.tx ++ [0x47], phase := q } := by
  split
  · next hv => exact sends_of_emits rfl (by simp [hp, hv]) e
  · next hv => exact sends_of_emits rfl (by simp [hp, eq_serial_of_ne_socket hv]) e

/-- Settles O37: the KEEPALIVE's two bytes, and the Go tokens of the handshake and of the cycle. -/
theorem handshakeAndGoTokensAreSent : Obligations.HandshakeAndGoTokensAreSent := fun s =>
  ⟨fun hp => sends_of_emits rfl (by simp [hp]) (engineStep_hsK0 hp),
    fun hp => sends_of_emits rfl (by simp [hp]) (engineStep_hsK1 hp),
    fun hp => sends_of_emits rfl (by simp [hp]) (engineStep_hsG0 hp),
    fun hp => sends_go (Or.inl hp) (engineStep_hsG1 hp),
    fun hp => sends_of_emits rfl (by simp [hp]) (engineStep_txG0 hp),
    fun hp => sends_go (Or.inr hp) (engineStep_txG1 hp)⟩

/-- Settles O40: the Quit token's two bytes in both sequences, and the serial fatal sequence's `Z`. -/
theorem closingTokensAreSent : Obligations.ClosingTokensAreSent := fun s =>
  ⟨fun hp => sends_of_emits rfl (by simp [hp]) (engineStep_dcQ0 hp),
    fun hp => sends_of_emits rfl (by simp [hp]) (engineStep_dcQ1 hp),
    fun hp => sends_of_emits rfl (by simp [hp]) (engineStep_fltZ hp),
    fun hp => sends_of_emits rfl (by simp [hp]) (engineStep_fltQ0 hp),
    fun hp => sends_of_emits rfl (by simp [hp]) (engineStep_fltQ1 hp)⟩

/-! ### Frames -/

/-- The last byte of a frame leaves TX_FRAME (R196). -/
theorem frameStep_of_last {s : State} (hc : s.txcnt = 767) :
    frameStep s = { s with
      tx := s.tx ++ [s.snap.get s.txcnt], txcnt := 0, phase := if s.variant = .socket then .txWaitD else .idle } :=
  if_pos hc

/-- Every other byte of a frame stays in TX_FRAME (R196). -/
theorem frameStep_of_not_last {s : State} (hc : s.txcnt ≠ 767) :
    frameStep s = { s with tx := s.tx ++ [s.snap.get s.txcnt], txcnt := s.txcnt + 1 } :=
  if_neg hc

/-- The Engine's step in TX_FRAME, for every TXCNT (R196). -/
theorem engineStep_frame {s : State} (hp : s.phase = .txFrame) :
    engineStep s = { s with
      tx := s.tx ++ [s.snap.get s.txcnt], txcnt := if s.txcnt = 767 then 0 else s.txcnt + 1,
      phase := if s.txcnt = 767 then (if s.variant = .socket then .txWaitD else .idle) else .txFrame } := by
  rw [engineStep_txFrame hp]
  split
  · next hc => exact frameStep_of_last hc
  · next hc => rw [frameStep_of_not_last hc, ← hp]

/-- Settles O38: the payload is the frame in flight, or the token is held. -/
theorem frameTokensAreSent : Obligations.FrameTokensAreSent := by
  intro s hp
  constructor
  · rw [← engineStep_frame hp]
    split
    · next hv => exact sends_of_emits rfl (by simp [State.emitsFrame, hp, hv]) rfl
    · next hv => exact sends_of_emits rfl (by simp [State.emitsFrame, hp, eq_serial_of_ne_socket hv]) rfl
  · intro payload hne
    have hother (v : Variant) : s.emitsFrame v payload = false := by simp [State.emitsFrame, hne.symm]
    constructor <;> simp [exec, execTokFrameSerial, execTokFrameSocket, emission, hother]

/-! ### Effects -/

/-- The token of the effect in flight is the latch's code and value (R38, R91). -/
theorem emitsEffect_of_efCode {s : State} {code : Byte} (hp : s.phase = .efCmd ∨ s.phase = .efVal)
    (hcode : s.efCode = code) : s.emitsEffect code s.effectValue = true := by
  simp [State.emitsEffect, hp, hcode]

/-- Settles O39: the Engine's step in EF_CMD and in EF_VAL, and the three tokens that mean it. -/
theorem effectTokensAreSent : Obligations.EffectTokensAreSent := fun s =>
  ⟨fun hp =>
    have e := engineStep_efCmd hp
    ⟨congrArg _ e, fun hcode => emission_eq_of_engineStep (emitsEffect_of_efCode (Or.inl hp) hcode) e,
      fun hcode => emission_eq_of_engineStep (emitsEffect_of_efCode (Or.inl hp) hcode) e,
      fun hcode => emission_eq_of_engineStep (by simp [hp, hcode, char]) e⟩,
  fun hp =>
    have e := engineStep_efVal hp
    ⟨congrArg _ e, fun hcode => emission_eq_of_engineStep (emitsEffect_of_efCode (Or.inr hp) hcode) e,
      fun hcode => emission_eq_of_engineStep (emitsEffect_of_efCode (Or.inr hp) hcode) e⟩⟩

end Sys2Proof.Machine
end

section
/-! Proofs of the family 42_link_fsm.md, whole steps: every change of PHASE is a row of the transition table (R187),
and an Awaiting-Ack state is left by a byte or by a timeout (R216). -/

namespace Sys2Proof.Machine

/-! ### Fatal entry as a transition -/

/-- The target that a conditional on VARIANT gives is the table's (R187). -/
theorem ite_socket_eq_bySocket (v : Variant) (a b : Phase) : (if v = .socket then a else b) = bySocket v a b := by
  cases v <;> rfl

/-- From `s` to `t` PHASE stays, or changes along a row of R187 for the driver `d`. -/
def Moves (d : Driver) (s t : State) : Prop := t.phase = s.phase ∨ Transition s.variant s.phase d t.phase

/-- A step to the target of a row moves along it. -/
theorem Moves.of_row {d : Driver} {s t : State} {p q : Phase} (hp : s.phase = p) (hq : t.phase = q)
    (hrow : TransitionRow.mk p d q ∈ plainTransitions s.variant := by simp [plainTransitions]) : Moves d s t := by
  subst hp hq
  exact Or.inr (Or.inl hrow)

/-- Fatal entry moves along the table's fatal rows, where the driver has one. -/
theorem moves_raiseFatal {d : Driver} {s : State} (c : Cause) (b : Byte)
    (hrow : (d = .engine ∧ (s.phase.isWait = true ∨ s.phase = .idle)) ∨
      (d = .timer ∧ s.phase.isWait = true ∧ s.phase ≠ .efWaitD) ∨ (d = .device ∧ s.phase.rxOpen = true)) :
    Moves d s (s.raiseFatal c b) := by
  obtain ⟨-, e⟩ | ⟨-, e⟩ := s.raiseFatal_cases c b <;> rw [e]
  · exact Or.inl rfl
  · exact Or.inr (Or.inr ⟨fatalEntry_phase s c b, hrow⟩)

/-! ### Each agent's step -/

theorem moves_deliver (s : State) (b : Byte) : Moves .device s (deliver s b) := by
  obtain ⟨-, e⟩ | ⟨hopen, -, e⟩ | ⟨-, -, e⟩ := deliver_cases s b <;> rw [e]
  · exact Or.inl rfl
  · exact moves_raiseFatal _ _ (Or.inr (Or.inr ⟨rfl, hopen⟩))
  · exact Or.inl rfl

theorem moves_timeoutStep (s : State) : Moves .timer s (timeoutStep s) := by
  obtain ⟨hw, hne, -, e⟩ | ⟨-, e⟩ := timeoutStep_cases s <;> rw [e]
  · exact moves_raiseFatal _ _ (Or.inr (Or.inl ⟨rfl, hw, hne⟩))
  · exact Or.inl rfl

/-- A WAIT step holds, is fatal, or moves along the row of its success action. -/
theorem moves_of_waitStep {s : State} {success : State → State} {p q : Phase} (hp : s.phase = p)
    (e : engineStep s = waitStep s success) (hq : ∀ u, (success u).phase = q)
    (hrow : TransitionRow.mk p .engine q ∈ plainTransitions s.variant := by simp [plainTransitions])
    (hw : p.isWait = true := by rfl) :
    Moves .engine s (engineStep s) := by
  have hw' : s.phase.isWait = true := hp ▸ hw
  rw [e]
  obtain ⟨-, e⟩ | ⟨b, rest, -, ⟨-, e⟩ | ⟨-, -, e⟩ | ⟨-, -, e⟩⟩ := waitStep_cases s success <;> rw [e]
  · exact Or.inl rfl
  · exact .of_row hp (hq _) hrow
  · exact moves_raiseFatal (s := s.setRxFifo rest) _ _ (Or.inl ⟨rfl, Or.inl hw'⟩)
  · exact moves_raiseFatal (s := s.setRxFifo rest) _ _ (Or.inl ⟨rfl, Or.inl hw'⟩)

/-- An IDLE step holds, is fatal, or starts the Go token of the variant. -/
theorem moves_idleStep {s : State} (hp : s.phase = .idle) : Moves .engine s (idleStep s) := by
  obtain ⟨rest, -, -, e⟩ | ⟨b, rest, -, -, -, e⟩ | ⟨-, -, e⟩ | ⟨-, -, e⟩ := idleStep_cases s <;> rw [e]
  · exact moves_raiseFatal (s := s.setRxFifo rest) _ _ (Or.inl ⟨rfl, Or.inr hp⟩)
  · exact Or.inl rfl
  · obtain ⟨-, e⟩ | ⟨-, e⟩ := consume_cases s <;> rw [e]
    · exact .of_row hp (ite_socket_eq_bySocket _ _ _)
    · exact moves_raiseFatal (s := s.setReady false) _ _ (Or.inl ⟨rfl, Or.inr hp⟩)
  · exact Or.inl rfl

/-- A SEND step moves along its row. -/
theorem moves_of_send {s : State} {b : Byte} {p q : Phase} (hp : s.phase = p)
    (e : engineStep s = (s.emit b).setPhase q)
    (hrow : TransitionRow.mk p .engine q ∈ plainTransitions s.variant := by simp [plainTransitions]) :
    Moves .engine s (engineStep s) := .of_row hp (congrArg State.phase e) hrow

theorem moves_frameStep {s : State} (hp : s.phase = .txFrame) : Moves .engine s (frameStep s) := by
  by_cases hc : s.txcnt = 767
  · rw [frameStep_of_last hc]
    exact .of_row hp (ite_socket_eq_bySocket _ _ _)
  · rw [frameStep_of_not_last hc]
    exact Or.inl rfl

/-- The Engine's step, phase by phase (R187). -/
theorem moves_engineStep (s : State) : Moves .engine s (engineStep s) := by
  cases hp : s.phase
  case disc | halt => exact Or.inl (congrArg State.phase (by simp only [engineStep, hp]))
  case idle => rw [engineStep_idle hp]; exact moves_idleStep hp
  case txFrame => rw [engineStep_txFrame hp]; exact moves_frameStep hp
  case hsWaitS =>
    exact moves_of_waitStep hp (engineStep_hsWaitS hp) (fun _ => ite_socket_eq_bySocket _ _ _)
  case hsWaitA => exact moves_of_waitStep hp (engineStep_hsWaitA hp) (fun _ => rfl)
  case txWaitA => exact moves_of_waitStep hp (engineStep_txWaitA hp) (fun _ => rfl)
  case txWaitD => exact moves_of_waitStep hp (engineStep_txWaitD hp) (fun _ => rfl)
  case efWaitA1 =>
    exact moves_of_waitStep (q := if s.efHasVal then .efVal else .efWaitD) hp (engineStep_efWaitA1 hp) (fun _ => rfl)
      (by split <;> simp [plainTransitions])
  case efWaitA2 => exact moves_of_waitStep hp (engineStep_efWaitA2 hp) (fun _ => rfl)
  case efWaitD => exact moves_of_waitStep hp (engineStep_efWaitD hp) (fun _ => rfl)
  case hsK0 => exact moves_of_send hp (engineStep_hsK0 hp)
  case hsK1 => exact moves_of_send hp (engineStep_hsK1 hp)
  case hsG0 => exact moves_of_send hp (engineStep_hsG0 hp)
  case hsG1 => exact moves_of_send hp (engineStep_hsG1 hp)
  case txG0 => exact moves_of_send hp (engineStep_txG0 hp)
  case txG1 => exact moves_of_send hp (engineStep_txG1 hp)
  case efCmd => exact moves_of_send hp (engineStep_efCmd hp) (by split <;> simp [plainTransitions])
  case efVal => exact moves_of_send hp (engineStep_efVal hp)
  case dcQ0 => exact moves_of_send hp (engineStep_dcQ0 hp)
  case dcQ1 => exact moves_of_send hp (engineStep_dcQ1 hp)
  case fltZ => exact moves_of_send hp (engineStep_fltZ hp)
  case fltQ0 => exact moves_of_send hp (engineStep_fltQ0 hp)
  case fltQ1 => exact moves_of_send hp (engineStep_fltQ1 hp)

/-- A producer operation that changes PHASE is CONNECT, DISCONNECT or EFFECT, and moves along its row (R187). -/
theorem exec_producer_moves {i : Instr} {s t : State} (hi : isProducerOp i = true) (h : exec i s = .next t) :
    t.phase = s.phase ∨ ∃ d, producerDriver i = some d ∧ Moves d s t := by
  cases i
  case connect =>
    cases h
    refine Or.inr ⟨_, rfl, ?_⟩
    iterate 2
      split
      · exact Or.inl rfl
    next hp => exact .of_row (not_not.mp hp) (ite_socket_eq_bySocket _ _ _)
  case disconnect =>
    cases h
    refine Or.inr ⟨_, rfl, ?_⟩
    iterate 3
      split
      · exact Or.inl rfl
    next hp => exact .of_row (not_not.mp hp) (ite_socket_eq_bySocket _ _ _)
  case effect =>
    cases h
    refine Or.inr ⟨_, rfl, ?_⟩
    iterate 6
      split
      · exact Or.inl rfl
    next hp => exact .of_row (not_not.mp hp) rfl
  all_goals
    cases hi <;> cases h
    repeat' split
    all_goals exact Or.inl rfl

/-! ### Whole steps -/

/-- A step but reset moves along the table, on the event of its driver. -/
theorem step_moves {s t : State} (h : step s = .next t) (hrst : s.nextEvent ≠ .agent .rst) :
    t.phase = s.phase ∨ ∃ d, driverOf s.nextEvent = some d ∧ Transition s.variant s.phase d t.phase := by
  have seen {d : Driver} (hd : driverOf s.nextEvent = some d) (hm : Moves d s.afterFetch t) :
      t.phase = s.phase ∨ ∃ d, driverOf s.nextEvent = some d ∧ Transition s.variant s.phase d t.phase := by
    rw [Moves, State.afterFetch_phase, State.afterFetch_variant] at hm
    exact hm.imp_right fun hrow => ⟨d, hd, hrow⟩
  obtain ⟨w, he, hx⟩ | ⟨he, rfl⟩ | ⟨v, bytes, he, rfl | ⟨-, rfl⟩⟩ | ⟨b, he, rfl⟩ | ⟨he, rfl⟩ | ⟨he, -⟩ := step_cases h
  · obtain hsame | ⟨d, hd, hm⟩ := exec_producer_moves (isProducerOp_decodeBus w) hx
    · exact Or.inl (hsame.trans s.afterFetch_phase)
    · exact seen (he ▸ hd) hm
  · exact seen (he ▸ rfl) (moves_engineStep _)
  · exact Or.inl s.afterFetch_phase
  · exact seen (he ▸ rfl) (moves_engineStep _)
  · exact seen (he ▸ rfl) (moves_deliver _ b)
  · exact seen (he ▸ rfl) (moves_timeoutStep _)
  · exact absurd he hrst

/-- Settles O51: a step that changes PHASE is not the one that keeps it. -/
theorem phaseChangesFollowTheTable : Obligations.PhaseChangesFollowTheTable := fun _ _ h hne hrst =>
  (step_moves h hrst).resolve_left hne

/-- The Awaiting-Ack states are the WAIT phases (R31). -/
theorem Phase.lstate_eq_two_iff (p : Phase) : p.lstate = 2 ↔ p.isWait = true := by
  cases p <;> decide

/-- A producer operation leaves no WAIT phase. -/
theorem exec_producer_phase_of_isWait {i : Instr} {s t : State} (hi : isProducerOp i = true) (h : exec i s = .next t)
    (hw : s.phase.isWait = true) : t.phase = s.phase := by
  obtain ⟨hsame, -⟩ | hp | ⟨hp, -⟩ | ⟨hp, -⟩ := exec_producer_phase_cases hi h
  · exact hsame
  all_goals rw [hp] at hw; cases hw

/-- Settles O56: the Engine holds in a WAIT phase without a byte, no token is sent in one, and the Producer leaves none. -/
theorem awaitingAckIsLeftByByteOrTimeout : Obligations.AwaitingAckIsLeftByByteOrTimeout := by
  intro s t h hs ht
  have hw : s.afterFetch.phase.isWait = true := by rwa [State.afterFetch_phase, ← Phase.lstate_eq_two_iff]
  have hleft : t.phase ≠ s.afterFetch.phase := by
    intro hsame
    rw [hsame, State.afterFetch_phase] at ht
    exact ht hs
  obtain ⟨w, -, hx⟩ | ⟨he, rfl⟩ | ⟨v, bytes, -, rfl | ⟨hsend, -⟩⟩ | ⟨b, he, -⟩ | ⟨he, rfl⟩ | ⟨he, -⟩ := step_cases h
  · exact absurd (exec_producer_phase_of_isWait (isProducerOp_decodeBus w) hx hw) hleft
  · refine Or.inl ⟨he, fun hq => hleft (congrArg State.phase ((engineStep_eq_self_iff _).mpr ?_))⟩
    rw [engineEnabled_of_isWait hw, State.afterFetch_rxFifo, not_not]
    exact hq
  · exact absurd rfl hleft
  · simp [Phase.isSend, (Phase.lstate_eq_two_iff _).mp hs] at hsend
  · exact Or.inr (Or.inl ⟨b, he⟩)
  · obtain ⟨-, -, hq, -⟩ | ⟨-, e⟩ := timeoutStep_cases s.afterFetch
    · exact Or.inr (Or.inr (Or.inl ⟨he, s.afterFetch_rxFifo ▸ hq⟩))
    · exact absurd (congrArg State.phase e) hleft
  · exact Or.inr (Or.inr (Or.inr he))

end Sys2Proof.Machine
end

section
/-! Proofs of the family 42_link_fsm.md, whole exchanges: the handshake, a frame, and a cycle, each put together from
runs of the agenda's entries (R181, R185, R186, R190 to R192, R196, R197, R205). -/

namespace Sys2Proof.Machine

/-! ### Runs -/

/-- A run after a run. -/
theorem stepsFrom_trans {s t u : State} {m n : Nat} (hfirst : stepsFrom m s = some t) (hthen : stepsFrom n t = some u) :
    stepsFrom (m + n) s = some u := (stepsFrom_add m n hfirst).trans hthen

/-- The Engine's entry. -/
theorem stepsFrom_engine {s t : State} {rest : List Event} (hagenda : s.agenda = .agent .engine :: rest)
    (e : engineStep { s with agenda := rest } = t) : stepsFrom 1 s = some t :=
  stepsFrom_one ((step_of_agenda hagenda).trans (congrArg _ e))

/-- The Device answers a WAIT phase that has no byte yet, and the Engine takes the awaited byte (R210, R211). -/
theorem stepsFrom_ack {s t : State} {p : Phase} {success : State → State} {rest : List Event} (hp : s.phase = p)
    (hq : s.rxFifo = []) (hdepth : 1 ≤ s.rxFifoDepth) (hw : p.isWait = true)
    (hagenda : s.agenda = .agent (.device p.ackCode) :: .agent .engine :: rest)
    (e : engineStep { s with rxFifo := [p.ackCode], agenda := rest } =
      waitStep { s with rxFifo := [p.ackCode], agenda := rest } success)
    (ht : success { s with rxFifo := [], agenda := rest } = t) : stepsFrom 2 s = some t := by
  have hdeliver : deliver { s with agenda := .agent .engine :: rest } p.ackCode =
      { s with rxFifo := [p.ackCode], agenda := .agent .engine :: rest } := by
    simp [deliver, hp, hq, rxOpen_of_isWait hw, Nat.not_le_of_lt hdepth, State.setRxFifo]
  have hanswer : stepsFrom 1 s = some { s with rxFifo := [p.ackCode], agenda := .agent .engine :: rest } :=
    stepsFrom_one <| (step_of_agenda hagenda).trans <| (runEvent_device _ _).trans (congrArg _ hdeliver)
  refine stepsFrom_trans (m := 1) (n := 1) hanswer (stepsFrom_engine rfl ?_)
  rw [e, waitStep_of_ackCode success (rest := []) (by rw [hp])]
  exact ht

/-! ### The handshake -/

/-- CONNECT in DISC (R180). -/
theorem stepsFrom_connect {s : State} {p : Phase} {rest : List Event} (hp : s.phase = .disc) (hfatal : s.fatal = false)
    (hnext : (if s.variant = .socket then .hsK0 else .hsWaitS) = p) (hagenda : s.agenda = encode .connect :: rest) :
    stepsFrom 1 s = some { s with
      agenda := rest, rxFifo := [], phase := p, cmdErr := .ok, busResp := some { err := false, rdata := 0 } } := by
  refine stepsFrom_one ((step_of_agenda hagenda).trans ?_)
  rw [runEvent_of_decode _ (decodeOfEncodeIsTheInstruction .connect rfl), connectStartsTheHandshake.2]
  simp only [hp, hfatal, hnext, Bool.false_eq_true, ne_eq, not_true_eq_false, if_false]

/-- The Device's `S` (R186). -/
theorem stepsFrom_hsWaitS {s : State} {p : Phase} {rest : List Event} (hp : s.phase = .hsWaitS) (hq : s.rxFifo = [])
    (hdepth : 1 ≤ s.rxFifoDepth) (hnext : (if s.variant = .socket then .hsG0 else .hsG1) = p)
    (hagenda : s.agenda = encode .tokS :: .agent .engine :: rest) :
    stepsFrom 2 s = some { s with agenda := rest, rxFifo := [], phase := p } :=
  stepsFrom_ack hp hq hdepth rfl hagenda (engineStep_hsWaitS hp) (by rw [← hnext]; rfl)

/-- The end of the handshake in both variants: `G`, and the Device's `A` (R185, R186). -/
theorem stepsFrom_hsG1 {s : State} {rest : List Event} (hp : s.phase = .hsG1) (hq : s.rxFifo = [])
    (hdepth : 1 ≤ s.rxFifoDepth) (hagenda : s.agenda = .agent .engine :: encode .tokA :: .agent .engine :: rest) :
    stepsFrom 3 s = some { s with
      agenda := rest, rxFifo := [], phase := .idle, conn := true, tx := s.tx ++ [0x47] } :=
  stepsFrom_trans (m := 1) (n := 2) (stepsFrom_engine hagenda (engineStep_hsG1 hp))
    (stepsFrom_ack rfl hq hdepth rfl rfl (engineStep_hsWaitA rfl) rfl)

/-- KEEPALIVE, in the socket variant (R185). -/
theorem stepsFrom_hsK0 {s : State} {rest : List Event} (hp : s.phase = .hsK0)
    (hagenda : s.agenda = .agent .engine :: .agent .engine :: rest) :
    stepsFrom 2 s = some { s with agenda := rest, phase := .hsWaitS, tx := s.tx ++ [0x00] ++ [0x4B] } :=
  stepsFrom_trans (m := 1) (n := 1) (stepsFrom_engine hagenda (engineStep_hsK0 hp))
    (stepsFrom_engine rfl (engineStep_hsK1 rfl))

/-- Settles O57: CONNECT, the KEEPALIVE of the socket variant, the Device's `S`, and the Go token with its `A`. -/
theorem handshakeEndsConnected : Obligations.HandshakeEndsConnected := by
  intro s rest hp hfatal hdepth
  refine ⟨fun hv hagenda => ?_, fun hv hagenda => ?_⟩
  · have hserial : s.variant ≠ .socket := by simp [hv]
    exact stepsFrom_trans (m := 1) (n := 5) (stepsFrom_connect hp hfatal (if_neg hserial) hagenda) <|
      stepsFrom_trans (m := 2) (n := 3) (stepsFrom_hsWaitS rfl rfl hdepth (if_neg hserial) rfl)
        (stepsFrom_hsG1 rfl rfl hdepth rfl)
  · have htx : s.tx ++ [0x00, 0x4B, 0x00, 0x47] = s.tx ++ [0x00] ++ [0x4B] ++ [0x00] ++ [0x47] := by simp
    rw [htx]
    exact stepsFrom_trans (m := 1) (n := 8) (stepsFrom_connect hp hfatal (if_pos hv) hagenda) <|
      stepsFrom_trans (m := 2) (n := 6) (stepsFrom_hsK0 rfl rfl) <|
      stepsFrom_trans (m := 2) (n := 4) (stepsFrom_hsWaitS rfl rfl hdepth (if_pos hv) rfl) <|
      stepsFrom_trans (m := 1) (n := 3) (stepsFrom_engine rfl (engineStep_hsG0 rfl))
        (stepsFrom_hsG1 rfl rfl hdepth rfl)

/-! ### A frame -/

/-- The bytes of SNAP before byte n, and byte n. -/
theorem take_snap_succ (v : Vector Byte 768) {n : Nat} (hn : n < 768) :
    v.toList.take n ++ [v.get ⟨n, hn⟩] = v.toList.take (n + 1) := by
  rw [List.take_succ_eq_append_getElem (by simpa using hn)]
  rfl

/-- Byte n of a frame, not the last (R196). -/
theorem stepsFrom_frameByte {s : State} {n : Nat} (hn : n + 1 < 768) {rest : List Event} (hp : s.phase = .txFrame)
    (hc : s.txcnt = ⟨n, Nat.lt_of_succ_lt hn⟩) (hagenda : s.agenda = .agent .engine :: rest) :
    stepsFrom 1 s = some { s with
      agenda := rest, tx := s.tx ++ [s.snap.get ⟨n, Nat.lt_of_succ_lt hn⟩], txcnt := ⟨n + 1, hn⟩ } := by
  have hlast : s.txcnt ≠ 767 := by
    rw [hc]
    exact Fin.ne_of_val_ne (Nat.ne_of_lt (Nat.lt_of_succ_lt_succ hn))
  have hnext : s.txcnt + 1 = ⟨n + 1, hn⟩ := by
    rw [hc]
    exact Fin.ext (Nat.mod_eq_of_lt hn)
  rw [← hnext, ← hc]
  exact stepsFrom_engine hagenda
    ((engineStep_txFrame (s := { s with agenda := rest }) hp).trans (frameStep_of_not_last hlast))

/-- The last byte of a frame (R196). -/
theorem stepsFrom_lastFrameByte {s : State} {p : Phase} {rest : List Event} (hp : s.phase = .txFrame)
    (hc : s.txcnt = 767) (hnext : (if s.variant = .socket then .txWaitD else .idle) = p)
    (hagenda : s.agenda = .agent .engine :: rest) :
    stepsFrom 1 s = some { s with agenda := rest, tx := s.tx ++ [s.snap.get 767], txcnt := 0, phase := p } := by
  rw [← hnext, ← hc]
  exact stepsFrom_engine hagenda
    ((engineStep_txFrame (s := { s with agenda := rest }) hp).trans (frameStep_of_last hc))

/-- After n < 768 steps in TX_FRAME the first n bytes are out and TXCNT = n (R196). -/
theorem stepsFrom_firstFrameBytes {s : State} {n : Nat} (hn : n < 768) {rest : List Event} (hp : s.phase = .txFrame)
    (hc : s.txcnt = 0) (hagenda : s.agenda = List.replicate n (.agent .engine) ++ rest) :
    stepsFrom n s = some { s with agenda := rest, tx := s.tx ++ s.snap.toList.take n, txcnt := ⟨n, hn⟩ } := by
  induction n generalizing rest with
  | zero =>
    have hzero : (⟨0, hn⟩ : Fin 768) = s.txcnt := hc.symm
    have hrest : s.agenda = rest := hagenda
    rw [stepsFrom, hzero, List.take_zero, List.append_nil, ← hrest]
  | succ n ih =>
    rw [List.replicate_succ', List.append_assoc] at hagenda
    rw [← take_snap_succ s.snap (Nat.lt_of_succ_lt hn), ← List.append_assoc]
    exact stepsFrom_trans (ih (Nat.lt_of_succ_lt hn) hagenda) (stepsFrom_frameByte hn hp rfl rfl)

/-- The 768 steps of a frame (R196). -/
theorem stepsFrom_frame {s : State} {p : Phase} {rest : List Event} (hp : s.phase = .txFrame) (hc : s.txcnt = 0)
    (hnext : (if s.variant = .socket then .txWaitD else .idle) = p)
    (hagenda : s.agenda = List.replicate 768 (.agent .engine) ++ rest) :
    stepsFrom 768 s = some { s with agenda := rest, tx := s.tx ++ s.snap.toList, txcnt := 0, phase := p } := by
  have hall : s.snap.toList.take 767 ++ [s.snap.get 767] = s.snap.toList :=
    (take_snap_succ s.snap (by decide)).trans (List.take_of_length_le (by simp))
  rw [List.replicate_succ', List.append_assoc] at hagenda
  rw [← hall, ← List.append_assoc]
  exact stepsFrom_trans (m := 767) (n := 1) (stepsFrom_firstFrameBytes (by decide) hp hc hagenda)
    (stepsFrom_lastFrameByte hp rfl hnext rfl)

/-- Settles O58: the bytes before the last stay in TX_FRAME, the last leaves it. -/
theorem frameTakesExactly768Steps : Obligations.FrameTakesExactly768Steps := by
  intro s n rest hle hp hc hagenda
  obtain hn | rfl := Nat.lt_or_eq_of_le hle
  · exact ⟨⟨n, hn⟩, .txFrame, hp ▸ stepsFrom_firstFrameBytes hn hp hc hagenda, fun _ => ⟨rfl, rfl⟩,
      fun h => absurd h (Nat.ne_of_lt hn)⟩
  · have hall : s.snap.toList.take 768 = s.snap.toList := List.take_of_length_le (by simp)
    rw [hall]
    exact ⟨0, _, stepsFrom_frame hp hc rfl hagenda, fun h => absurd h (Nat.lt_irrefl _), fun _ => ⟨rfl, rfl⟩⟩

/-! ### A cycle -/

/-- The consume step of a full frame buffer (R190). -/
theorem stepsFrom_consume {s : State} {p : Phase} {rest : List Event} (hp : s.phase = .idle) (hready : s.ready = true)
    (hq : s.rxFifo = []) (hset : ∀ i < 256, s.fb.valid i = true)
    (hnext : (if s.variant = .socket then .txG0 else .txG1) = p) (hagenda : s.agenda = .agent .engine :: rest) :
    stepsFrom 1 s = some { s with
      agenda := rest, ready := false, snap := encodeFrame s.variant s.fb.rgb, txcnt := 0, phase := p } := by
  rw [← hnext]
  exact stepsFrom_engine hagenda (engineStep_consume (s := { s with agenda := rest }) hp hready (Or.inr hq) hset)

/-- The end of the cycle's Go token in both variants, and the Device's `A` (R191, R192). -/
theorem stepsFrom_txG1 {s : State} {rest : List Event} (hp : s.phase = .txG1) (hq : s.rxFifo = [])
    (hdepth : 1 ≤ s.rxFifoDepth) (hagenda : s.agenda = .agent .engine :: encode .tokA :: .agent .engine :: rest) :
    stepsFrom 3 s = some { s with
      agenda := rest, rxFifo := [], txcnt := 0, phase := .txFrame, tx := s.tx ++ [0x47] } :=
  stepsFrom_trans (m := 1) (n := 2) (stepsFrom_engine hagenda (engineStep_txG1 hp))
    (stepsFrom_ack rfl hq hdepth rfl rfl (engineStep_txWaitA rfl) rfl)

/-- The Device's `D` (R197). -/
theorem stepsFrom_txWaitD {s : State} {rest : List Event} (hp : s.phase = .txWaitD) (hq : s.rxFifo = [])
    (hdepth : 1 ≤ s.rxFifoDepth) (hagenda : s.agenda = encode .tokD :: .agent .engine :: rest) :
    stepsFrom 2 s = some { s with agenda := rest, rxFifo := [], phase := .idle } :=
  stepsFrom_ack hp hq hdepth rfl hagenda (engineStep_txWaitD hp) rfl

/-- Settles O59: the consume step, the Go token with its `A`, the frame, and in the socket variant the `D`. -/
theorem oneConsumeGivesOneCycle : Obligations.OneConsumeGivesOneCycle := by
  intro s rest hp hready hq hdepth hset
  refine ⟨fun hv hagenda => ?_, fun hv hagenda => ?_⟩ <;> rw [← hv, hp, hq]
  · have hserial : s.variant ≠ .socket := by simp [hv]
    rw [List.append_assoc] at hagenda
    exact stepsFrom_trans (m := 1) (n := 771) (stepsFrom_consume hp hready hq hset (if_neg hserial) hagenda) <|
      stepsFrom_trans (m := 3) (n := 768) (stepsFrom_txG1 rfl hq hdepth rfl)
        (stepsFrom_frame rfl rfl (if_neg hserial) rfl)
  · have htx : s.tx ++ [0x00, 0x47] = s.tx ++ [0x00] ++ [0x47] := by simp
    rw [List.append_assoc, List.append_assoc] at hagenda
    rw [htx]
    exact stepsFrom_trans (m := 1) (n := 774) (stepsFrom_consume hp hready hq hset (if_pos hv) hagenda) <|
      stepsFrom_trans (m := 1) (n := 773) (stepsFrom_engine rfl (engineStep_txG0 rfl)) <|
      stepsFrom_trans (m := 3) (n := 770) (stepsFrom_txG1 rfl hq hdepth rfl) <|
      stepsFrom_trans (m := 768) (n := 2) (stepsFrom_frame rfl rfl (if_pos hv) rfl)
        (stepsFrom_txWaitD rfl rfl hdepth rfl)

end Sys2Proof.Machine
end

section
/-! Proofs of the family 60_exceptions.md: fatal entry, the phases in which nothing but a producer operation or reset
acts, and what a step does to the fault record (R240, R241, R243, R245, R246). -/

namespace Sys2Proof.Machine

/-! ### Fatal entry and rest -/

/-- Settles O31: the two cases of fatal entry. -/
theorem fatalEntryWrites : Obligations.FatalEntryWrites := State.raiseFatal_eq_ite

/-- Settles O46: the Engine is not enabled, a delivery is discarded, and the Timer asks for a WAIT phase. -/
theorem restPhasesHold : Obligations.RestPhasesHold := by
  intro s b hp
  refine ⟨(engineHoldsExactlyWhenNotEnabled s).mpr ?_, (deliveryQueuesOrOverflows b s).trans (congrArg _ (if_pos ?_)),
    (timeoutOnlyInQualifyingStates s).trans (congrArg _ (if_neg ?_))⟩
  · obtain hp | hp := hp <;> simp [EngineEnabled, hp, Phase.isSend, Phase.isRest, Phase.isWait]
  · obtain hp | hp := hp <;> simp [hp]
  · obtain hp | hp := hp <;> simp [hp, Phase.isWait]

/-! ### The fault record -/

/-- FATAL, CAUSE, FAULT_BYTE and FAULT_PHASE (R34). -/
def State.faultRecord (s : State) : Bool × Cause × Byte × Phase := (s.fatal, s.cause, s.faultByte, s.faultPhase)

@[simp] theorem State.afterFetch_faultRecord (s : State) : s.afterFetch.faultRecord = s.faultRecord := by
  simp [State.faultRecord]

/-- R240's table: the entry `e` raises the cause in the state `s`, with this FAULT_BYTE. -/
def FaultRow (e : Event) (s : State) : Cause → Byte → Prop
  | .none, _ => False
  | .badByte, x => e = .agent .engine ∧ s.phase.isWait = true ∧
      ∃ b rest, s.rxFifo = b :: rest ∧ b ≠ s.phase.ackCode ∧ b ≠ 0x45 ∧ x = b
  | .deviceError, x => e = .agent .engine ∧ (s.phase.isWait = true ∨ (s.phase = .idle ∧ s.variant = .serial)) ∧
      (∃ rest, s.rxFifo = 0x45 :: rest) ∧ x = 0x45
  | .timeout, x => e = .agent .timer ∧ s.phase.isWait = true ∧ s.phase ≠ .efWaitD ∧ s.rxFifo = [] ∧ x = 0
  | .unsetPixel, x => e = .agent .engine ∧ s.phase = .idle ∧ s.ready = true ∧ (∃ p < 256, s.fb.valid p = false) ∧ x = 0
  | .rxOverflow, x => (∃ b, e = .agent (.device b)) ∧ s.phase.rxOpen = true ∧ s.rxFifoDepth ≤ s.rxFifo.length ∧ x = 0

/-- Fetching the entry writes nothing that a row speaks of. -/
theorem faultRow_afterFetch {e : Event} {s : State} {c : Cause} {x : Byte} :
    FaultRow e s.afterFetch c x ↔ FaultRow e s c x := by
  cases c <;> simp [FaultRow]

/-- What the entry `e` does to the fault record from `s` to `t`: it keeps it, or it is a row of R240 with FATAL = 0
and FAULT_PHASE records PHASE. -/
def KeepsOrRaises (e : Event) (s t : State) : Prop :=
  t.faultRecord = s.faultRecord ∨ (s.fatal = false ∧ t.faultPhase = s.phase ∧ FaultRow e s t.cause t.faultByte)

theorem KeepsOrRaises.of_afterFetch {e : Event} {s t : State} (h : KeepsOrRaises e s.afterFetch t) :
    KeepsOrRaises e s t := by
  simpa only [KeepsOrRaises, State.afterFetch_faultRecord, State.afterFetch_fatal, State.afterFetch_phase,
    faultRow_afterFetch] using h

/-- Fatal entry on a row of R240, from the state `u` that the raising step has reached: a popped FIFO or a cleared
flag is not recorded. -/
theorem keepsOrRaises_raiseFatal {e : Event} {s u : State} {c : Cause} {b : Byte} (hrecord : u.faultRecord = s.faultRecord)
    (hphase : u.phase = s.phase) (hrow : FaultRow e s c b) : KeepsOrRaises e s (u.raiseFatal c b) := by
  obtain ⟨-, h⟩ | ⟨hfatal, h⟩ := u.raiseFatal_cases c b <;> rw [h]
  · exact Or.inl hrecord
  · exact Or.inr ⟨(congrArg Prod.fst hrecord).symm.trans hfatal, hphase, hrow⟩

/-! ### Each agent's step -/

/-- A frame buffer that is not all set has an unset pixel. -/
theorem Memory.exists_unset {m : Memory} (h : m.allValid = false) : ∃ p < 256, m.valid p = false := by
  simpa [h] using m.allValid_iff.not

section
variable (s : State)

/-- A WAIT step keeps the record if its success action does, and raises BAD_BYTE or DEVICE_ERROR (R211). -/
theorem keepsOrRaises_waitStep {success : State → State} (hw : s.phase.isWait = true)
    (hs : ∀ u : State, (success u).faultRecord = u.faultRecord) :
    KeepsOrRaises (.agent .engine) s (waitStep s success) := by
  obtain ⟨-, e⟩ | ⟨b, rest, hq, ⟨-, e⟩ | ⟨-, rfl, e⟩ | ⟨hack, hE, e⟩⟩ := waitStep_cases s success <;> rw [e]
  · exact Or.inl rfl
  · exact Or.inl (hs _)
  · exact keepsOrRaises_raiseFatal rfl rfl ⟨rfl, Or.inl hw, ⟨rest, hq⟩, rfl⟩
  · exact keepsOrRaises_raiseFatal rfl rfl ⟨rfl, hw, b, rest, hq, hack, hE, rfl⟩

/-- A consume step raises UNSET_PIXEL alone (R190). -/
theorem keepsOrRaises_consume (hp : s.phase = .idle) (hready : s.ready = true) :
    KeepsOrRaises (.agent .engine) s (consume s) := by
  obtain ⟨-, e⟩ | ⟨hunset, e⟩ := consume_cases s <;> rw [e]
  · exact Or.inl rfl
  · exact keepsOrRaises_raiseFatal rfl rfl ⟨rfl, hp, hready, Memory.exists_unset hunset, rfl⟩

theorem keepsOrRaises_idleStep (hp : s.phase = .idle) : KeepsOrRaises (.agent .engine) s (idleStep s) := by
  obtain ⟨rest, hv, hq, e⟩ | ⟨b, rest, -, -, -, e⟩ | ⟨-, hready, e⟩ | ⟨-, -, e⟩ := idleStep_cases s <;> rw [e]
  · exact keepsOrRaises_raiseFatal rfl rfl ⟨rfl, Or.inr ⟨hp, hv⟩, ⟨rest, hq⟩, rfl⟩
  · exact Or.inl rfl
  · exact keepsOrRaises_consume s hp hready
  · exact Or.inl rfl

theorem keepsOrRaises_engineStep : KeepsOrRaises (.agent .engine) s (engineStep s) := by
  obtain ⟨hw, success, e, hsuccess⟩ | ⟨hp, e⟩ | ⟨-, b, p, n, e⟩ | ⟨-, e⟩ := engineStep_cases s <;> rw [e]
  · refine keepsOrRaises_waitStep s hw fun u => ?_
    obtain ⟨p, hu | hu | hu⟩ := hsuccess u <;> rw [hu] <;> rfl
  · exact keepsOrRaises_idleStep s hp
  · exact Or.inl rfl
  · exact Or.inl rfl

/-- A SEND phase raises nothing: R240 has no row for it. -/
theorem engineStep_faultRecord_of_isSend (hsend : s.phase.isSend = true) :
    (engineStep s).faultRecord = s.faultRecord := by
  obtain ⟨hw, -⟩ | ⟨hp, -⟩ | ⟨-, b, p, n, e⟩ | ⟨-, e⟩ := engineStep_cases s
  · simp [Phase.isSend, hw] at hsend
  · rw [hp] at hsend
    exact absurd hsend (by decide)
  · rw [e]
    rfl
  · rw [e]

theorem keepsOrRaises_deliver (b : Byte) : KeepsOrRaises (.agent (.device b)) s (deliver s b) := by
  obtain ⟨-, e⟩ | ⟨hopen, hfull, e⟩ | ⟨-, -, e⟩ := deliver_cases s b <;> rw [e]
  · exact Or.inl rfl
  · exact keepsOrRaises_raiseFatal rfl rfl ⟨⟨b, rfl⟩, hopen, hfull, rfl⟩
  · exact Or.inl rfl

theorem keepsOrRaises_timeoutStep : KeepsOrRaises (.agent .timer) s (timeoutStep s) := by
  obtain ⟨hw, hne, hq, e⟩ | ⟨-, e⟩ := timeoutStep_cases s <;> rw [e]
  · exact keepsOrRaises_raiseFatal rfl rfl ⟨rfl, hw, hne, hq, rfl⟩
  · exact Or.inl rfl

end

/-! ### Whole steps -/

/-- A step is reset, which clears FATAL, or keeps the fault record, or raises a fault on a row of R240. -/
theorem step_rst_or_keepsOrRaises {s t : State} (h : step s = .next t) :
    (s.nextEvent = .agent .rst ∧ t.fatal = false) ∨ KeepsOrRaises s.nextEvent s t := by
  obtain ⟨w, -, hx⟩ | ⟨he, rfl⟩ | ⟨v, bytes, -, rfl | ⟨hsend, rfl⟩⟩ | ⟨b, he, rfl⟩ | ⟨he, rfl⟩ | ⟨he, rfl⟩ := step_cases h
  · obtain ⟨-, hfatal, hcause, hbyte, hphase, -⟩ := exec_producer_frame (isProducerOp_decodeBus w) hx
    exact Or.inr (Or.inl (by simp [State.faultRecord, hfatal, hcause, hbyte, hphase]))
  · exact Or.inr (he ▸ (keepsOrRaises_engineStep _).of_afterFetch)
  · exact Or.inr (Or.inl s.afterFetch_faultRecord)
  · have hkeeps := engineStep_faultRecord_of_isSend s.afterFetch (by simpa using hsend)
    exact Or.inr (Or.inl (hkeeps.trans s.afterFetch_faultRecord))
  · exact Or.inr (he ▸ (keepsOrRaises_deliver _ b).of_afterFetch)
  · exact Or.inr (he ▸ (keepsOrRaises_timeoutStep _).of_afterFetch)
  · exact Or.inl ⟨he, rfl⟩

/-- HALT is the source of no row of R187. -/
theorem not_transition_halt (v : Variant) (d : Driver) (p : Phase) : ¬ Transition v .halt d p := by
  simp [Transition, plainTransitions, Phase.isWait, Phase.rxOpen]

/-- Settles O49: with FATAL = 1 no step but reset writes the record, and no transition leaves HALT. -/
theorem fatalIsStickyUntilReset : Obligations.FatalIsStickyUntilReset := by
  intro s t h hrst
  refine ⟨fun hfatal => ?_, fun hhalt => ?_⟩
  · obtain ⟨he, -⟩ | hkeeps | ⟨hno, -⟩ := step_rst_or_keepsOrRaises h
    · exact absurd he hrst
    · simpa [State.faultRecord, hfatal] using hkeeps
    · simp [hfatal] at hno
  · obtain hsame | ⟨d, -, hrow⟩ := step_moves h hrst
    · exact hsame.trans hhalt
    · rw [hhalt] at hrow
      exact absurd hrow (not_transition_halt _ _ _)

/-- Settles O50: a step that sets FATAL neither is reset nor keeps the record, so it is on a row of R240. -/
theorem faultCausesAreRecorded : Obligations.FaultCausesAreRecorded := by
  intro s t h hs ht
  obtain ⟨-, hno⟩ | hkeeps | ⟨-, hphase, hrow⟩ := step_rst_or_keepsOrRaises h
  · simp [hno] at ht
  · simp [State.faultRecord, hs, ht] at hkeeps
  · refine ⟨hphase, ?_⟩
    cases hc : t.cause <;> rw [hc] at hrow <;> exact hrow

end Sys2Proof.Machine
end

section
/-! Proofs of the family 70_reset_and_hazards.md: what the reset state holds, and the step that gives it (R270, R271). -/

namespace Sys2Proof.Machine

/-! ### The reset state meets the invariant -/

/-- The reset registers: FATAL = 0, so no clause about a fatal error asks anything, and the effect latch is clear. -/
theorem regInv_reset : RegInv State.reset where
  fb_wf := rfl
  depth_pos := by decide
  fifo_le := Nat.zero_le _
  fatal_fifo := fun _ => rfl
  fault_clear := fun _ => ⟨rfl, rfl, rfl⟩
  fault_set := nofun
  byte_bad := nofun
  byte_device := nofun
  byte_other := fun _ => rfl
  latch_val := fun _ => rfl
  latch_blank := fun _ => rfl

/-- DISC asks FATAL = 0, CONN = 0 and TXCNT = 0 of the registers. -/
theorem phaseFits_reset : PhaseFits State.reset .disc where
  fatal_iff := rfl
  conn_iff := rfl
  txcnt_zero := fun _ => rfl

/-- Settles O47: the reset registers are sound by themselves, and they fit DISC. -/
theorem invariantHoldsAtReset : Obligations.InvariantHoldsAtReset := inv_iff.mpr ⟨regInv_reset, phaseFits_reset⟩

/-! ### What is read after reset -/

/-- In an empty Frame Buffer every pixel is unset (R23). -/
@[simp] theorem Memory.valid_nil (p : Nat) : Memory.valid [] p = false := by simp [Memory.valid]

/-- STATUS reads 0 after reset: every field of it is 0 (R28, R270). -/
theorem statusWord_reset : State.reset.statusWord = 0 := rfl

/-- CONFIG reads 0 after reset: the serial variant (R27, R270). -/
theorem configWord_reset : State.reset.configWord = 0 := configWord_eq State.reset

/-- FAULTINFO reads 0 after reset, as in every state with FATAL = 0 that meets the invariant (R43, R270). -/
theorem faultWord_reset : State.reset.faultWord = 0 := faultWord_eq_zero invariantHoldsAtReset rfl

/-- Settles O8: the registers as reset writes them, and the words that are read from them. -/
theorem resetValues : Obligations.ResetValues :=
  ⟨fun p _ => Memory.valid_nil p, rfl, rfl, rfl, rfl, rfl, rfl, rfl, rfl, rfl, rfl, rfl, rfl, rfl, rfl, rfl, rfl, rfl, rfl,
    statusWord_reset, configWord_reset, faultWord_reset⟩

/-! ### The reset step -/

/-- A pushed reset entry is the next step, in every phase, and that step is `resetBlock` (R271). -/
theorem step_withEvent_rst (s : State) : step (s.withEvent (.agent .rst)) = .next s.resetBlock := rfl

/-- Settles O9: the reset step, and `resetBlock` as the record that it is. -/
theorem resetEndsAnyPhase : Obligations.ResetEndsAnyPhase := step_withEvent_rst

end Sys2Proof.Machine
end
